-- ==== Sys2Proof/Word.lean ====
section
/-! DEFINITION. The machine's plain word types (spec/00_scope.md R12): every value is an unsigned bit vector of a
stated width. -/

namespace Sys2Proof

/-- An 8-bit value: a memory byte, a byte register half, a port byte (R12). -/
abbrev Byte := BitVec 8

/-- A 16-bit value: a general register, a segment register, IP, an offset, a port number (R12, `XLEN` = 16 in R6). -/
abbrev Word := BitVec 16

/-- A 20-bit physical address (`PHYS_BITS` = 20 in R6). -/
abbrev Addr := BitVec 20

end Sys2Proof
end

