-- ==== Sys2Proof/Machine/Bits.lean ====
section
/-! DEFINITION. Bit-field, sign-extension and byte-order helpers (spec/00_scope.md R12). -/

namespace Sys2Proof.Machine

/-- `low8(v)` is `v[7:0]` (R12). -/
def low8 (v : Word) : Byte := v.extractLsb' 0 8

/-- `high8(v)` is `v[15:8]` (R12). -/
def high8 (v : Word) : Byte := v.extractLsb' 8 8

/-- `hi ++ lo` as a word: the high byte first (R12). -/
def wordOf (hi lo : Byte) : Word := hi ++ lo

/-- `sext_16(b)` (R12). -/
def sext16 (b : Byte) : Word := b.signExtend 16

/-- `zext_16(b)` (R12). -/
def zext16 (b : Byte) : Word := b.setWidth 16

/-- `parity8(x)`: 1 when the byte holds an even number of 1 bits (spec/40_alu.md R151). -/
def parity8 (x : Byte) : Bool :=
  !(x.getLsbD 0 ^^ x.getLsbD 1 ^^ x.getLsbD 2 ^^ x.getLsbD 3
    ^^ x.getLsbD 4 ^^ x.getLsbD 5 ^^ x.getLsbD 6 ^^ x.getLsbD 7)

/-- The lowest-numbered 1 bit of a byte, if it has one (the PIC's priority, spec/61_devices.md R554, R557). -/
def lowestBit (b : Byte) : Option (Fin 8) :=
  if b.getLsbD 0 then some 0
  else if b.getLsbD 1 then some 1
  else if b.getLsbD 2 then some 2
  else if b.getLsbD 3 then some 3
  else if b.getLsbD 4 then some 4
  else if b.getLsbD 5 then some 5
  else if b.getLsbD 6 then some 6
  else if b.getLsbD 7 then some 7
  else none

/-- The byte whose only 1 bit is bit i. -/
def bitMask (i : Fin 8) : Byte := 1#8 <<< i.val

/-- The byte with bit i set. -/
def setBit (b : Byte) (i : Fin 8) : Byte := b ||| bitMask i

/-- The byte with bit i cleared. -/
def clearBit (b : Byte) (i : Fin 8) : Byte := b &&& ~~~ bitMask i

end Sys2Proof.Machine
end

