-- ==== Sys2Proof/Config.lean ====
section
/-! DEFINITION. The implementation parameters of spec/00_scope.md R6, each at the value its third column gives for this
hardware; the one parameter that R6 leaves open (`ILLEGAL_OPCODE_POLICY`) and the values the spec calls unspecified
(R18) are opaque constants without a body, so that no proof can see a value of theirs. -/

namespace Sys2Proof.Config

/-- `EXT186` = true (R6, decision D1): the 80186/V20 additions of spec/49_ext186.md are legal. -/
def ext186 : Bool := true

/-- `FLAGS_FIXED_ONES` = 0xF002 (R6, decision D2). -/
def flagsFixedOnes : Word := 0xF002

/-- `SHIFT_COUNT_MASK` = 0xFF: no masking (R6, decision D13). -/
def shiftCountMask : Byte := 0xFF

/-- `IDIV_NEG_MIN_FAULTS` = false (R6, decision D12). -/
def idivNegMinFaults : Bool := false

/-- `PIC_ICW4_ALWAYS` = false (R6, decision D19). -/
def picIcw4Always : Bool := false

/-- `DMA_SENTINEL` = 0x80 (R6, decision D21). -/
def dmaSentinel : Byte := 0x80

/-- `MEM_SIZE` = 2^20 bytes of physical memory (R6, R60). -/
def memSize : Nat := 1048576

/-- First address of `VIDEO_WINDOW` (R6, R66). -/
def videoFirst : Nat := 0xA0000

/-- Last address of `VIDEO_WINDOW` (R6, R66). -/
def videoLast : Nat := 0xBFFFF

/-- `PIC_BASE` = 0x20 (R6, decision D19). -/
def picBase : Nat := 0x20

/-- `PIT_BASE` = 0x40 (R6, decision D20). -/
def pitBase : Nat := 0x40

/-- `PIT_CLOCK_HZ` (R6, R576). -/
def pitClockHz : Nat := 1193182

/-- The bound on prefix bytes in one instruction: the 65 536 bytes that CS can reach (R646). -/
def prefixBound : Nat := 65536

/-- The two values of `ILLEGAL_OPCODE_POLICY` (R445). -/
inductive IllegalPolicy where
  /-- an illegal encoding performs `IntCall(6)` -/
  | raise6
  /-- an illegal encoding has no effect beyond the bytes consumed -/
  | nop
  deriving DecidableEq, Repr, Inhabited

/-- `ILLEGAL_OPCODE_POLICY`: open, no default (R6, P1 of spec/92_eei_decisions.md); both values are modelled.
notes/assumptions/5. -/
opaque illegalOpcodePolicy : IllegalPolicy

/-- The free draws of one bit: an unspecified flag (R18, U1 to U7 of spec/93_implementation_defined.md).
notes/assumptions/1. -/
opaque freeBit : Nat → Bool

/-- The free draws of one byte: the value a DMA port or a platform port returns (U15, P4). notes/assumptions/2. -/
opaque freeByte : Nat → Byte

/-- The free draws of one word: a PIT count (U14), a general register after a later `reset()` (U9).
notes/assumptions/3. -/
opaque freeWord : Nat → Word

/-- `TICK_CADENCE` - 1: open, no number (R6, P2). notes/assumptions/27. -/
opaque tickCadencePred : Nat

/-- `TICK_CADENCE`, a positive integer: retired instructions between two polls of the timing scheduler (R6). -/
def tickCadence : Nat := tickCadencePred + 1

/-- `getHostFreq()`: host ticks per second, an input of the block (R11, spec/61_devices.md R620). notes/assumptions/8. -/
opaque hostFreq : Nat

/-- Is the quotient of the two numbers rounded up to a whole number of host ticks, when it is not whole? Not stated
(R576). notes/assumptions/8. -/
opaque roundsUp : Nat → Nat → Bool

/-- The two readings of the division in a PIT channel's derived frequency (R576). -/
inductive FreqDivision where
  /-- real division -/
  | real
  /-- integer division -/
  | integer
  deriving DecidableEq, Repr, Inhabited

/-- Which reading holds: not stated (R576); both are modelled. notes/assumptions/28. -/
opaque freqDivision : FreqDivision

end Sys2Proof.Config
end

