-- ==== Sys2Proof/Machine/Memory.lean ====
section
/-! DEFINITION. Physical memory as a list of (address, byte) pairs in one canonical form, and the read-only map as a sorted
list of addresses (spec/20_memory.md R60). notes/assumptions/24. -/

namespace Sys2Proof.Machine

/-- Physical memory: the listed bytes, addresses strictly rising (R60). -/
abbrev Memory := List Host.Cell

/-- What a byte that is not listed reads as. DESIGN CHOICE, unsafe: the spec leaves a byte that no image covers
unspecified (U9). notes/assumptions/6. -/
def unlistedByte : Byte := 0#8

/-- `mem[a]` (R63). -/
def Memory.read : Memory → Nat → Byte
  | [], _ => unlistedByte
  | (k, v) :: rest, a => if k = a then v else Memory.read rest a

/-- `mem[a] <- v`, keeping the canonical form: the byte an unlisted address reads as is not listed. -/
def Memory.write : Memory → Nat → Byte → Memory
  | [], a, v => if v = unlistedByte then [] else [(a, v)]
  | (k, w) :: rest, a, v =>
    if a < k then (if v = unlistedByte then (k, w) :: rest else (a, v) :: (k, w) :: rest)
    else if a = k then (if v = unlistedByte then rest else (a, v) :: rest)
    else (k, w) :: Memory.write rest a v

/-- The canonical form from address lo on. -/
def Memory.wfFrom : Nat → Memory → Bool
  | _, [] => true
  | lo, (k, v) :: rest =>
    decide (lo ≤ k) && decide (k < Config.memSize) && decide (v ≠ unlistedByte) && Memory.wfFrom (k + 1) rest

/-- The canonical form: addresses strictly rising and below 2^20, no entry equal to an unlisted byte. -/
def Memory.wf (m : Memory) : Bool := Memory.wfFrom 0 m

/-- The read-only map: the addresses whose `ro` bit is true, strictly rising (R60). -/
abbrev RoMap := List Nat

/-- `ro[a]` (R64). -/
def RoMap.has (r : RoMap) (a : Nat) : Bool := List.contains r a

/-- `ro[a] <- true`, keeping the order (only `loadImage` does this, spec/70_reset_and_hazards.md R634). -/
def RoMap.add : RoMap → Nat → RoMap
  | [], a => [a]
  | k :: rest, a => if a < k then a :: k :: rest else if a = k then k :: rest else k :: RoMap.add rest a

/-- The canonical form of the read-only map from address lo on. -/
def RoMap.wfFrom : Nat → RoMap → Bool
  | _, [] => true
  | lo, k :: rest => decide (lo ≤ k) && decide (k < Config.memSize) && RoMap.wfFrom (k + 1) rest

/-- The canonical form: strictly rising, below 2^20. -/
def RoMap.wf (r : RoMap) : Bool := RoMap.wfFrom 0 r

end Sys2Proof.Machine
end

