-- ==== Sys2Proof/Machine/PortMap.lean ====
section
/-! DEFINITION. The port table (spec/61_devices.md R610, R615, R616): which handler a port number reaches. The table of
65 536 entries is held as a list of inclusive ranges; the first range that covers a port gives its entry, a port that no
range covers has none. -/

namespace Sys2Proof.Machine

/-- A handler of the port bus: one constructor for each kind of port the block has, and one for a port that the platform
registers (P4 of spec/92_eei_decisions.md). -/
inductive Handler where
  /-- address port of a DMA channel (R593) -/
  | dmaAddress (c : Fin 4)
  /-- count port of a DMA channel (R593) -/
  | dmaCount (c : Fin 4)
  /-- single mask bit, port 0x0A (R594) -/
  | dmaMask
  /-- mode, port 0x0B (R594) -/
  | dmaMode
  /-- clear flip-flop, port 0x0C (R594) -/
  | dmaClearFlipFlop
  /-- a DMA port whose writes are dropped (R592) -/
  | dmaIgnored
  /-- page port of a DMA channel (R595) -/
  | dmaPage (c : Fin 4)
  /-- a port of the page range whose writes are dropped (R592) -/
  | dmaPageIgnored
  /-- PIC command port (R555, R558) -/
  | picCommand
  /-- PIC data port (R556, R559) -/
  | picData
  /-- PIT data port of a channel (R574, R575) -/
  | pitData (c : Fin 3)
  /-- PIT mode port (R573, R575) -/
  | pitMode
  /-- a handler the platform registered: its behaviour is not the block's (R610). notes/assumptions/16. -/
  | platform
  deriving DecidableEq, Repr

/-- An inclusive range of ports with one handler, or with none (R616). -/
structure PortRange where
  lo : Nat
  hi : Nat
  handler : Option Handler
  deriving DecidableEq, Repr

/-- The table entry of a port (R610): the latest registration that covers it. -/
def lookupPort : List PortRange → Word → Option Handler
  | [], _ => none
  | e :: rest, port => if e.lo ≤ port.toNat ∧ port.toNat ≤ e.hi then e.handler else lookupPort rest port

/-- The entries of the block (R592, R615). -/
def blockPorts : List PortRange :=
  [⟨0x00, 0x00, some (.dmaAddress 0)⟩, ⟨0x01, 0x01, some (.dmaCount 0)⟩,
   ⟨0x02, 0x02, some (.dmaAddress 1)⟩, ⟨0x03, 0x03, some (.dmaCount 1)⟩,
   ⟨0x04, 0x04, some (.dmaAddress 2)⟩, ⟨0x05, 0x05, some (.dmaCount 2)⟩,
   ⟨0x06, 0x06, some (.dmaAddress 3)⟩, ⟨0x07, 0x07, some (.dmaCount 3)⟩,
   ⟨0x0A, 0x0A, some .dmaMask⟩, ⟨0x0B, 0x0B, some .dmaMode⟩,
   ⟨0x0C, 0x0C, some .dmaClearFlipFlop⟩, ⟨0x00, 0x0F, some .dmaIgnored⟩]
  ++ [⟨Config.picBase, Config.picBase, some .picCommand⟩,
   ⟨Config.picBase + 1, Config.picBase + 1, some .picData⟩,
   ⟨Config.pitBase, Config.pitBase, some (.pitData 0)⟩,
   ⟨Config.pitBase + 1, Config.pitBase + 1, some (.pitData 1)⟩,
   ⟨Config.pitBase + 2, Config.pitBase + 2, some (.pitData 2)⟩,
   ⟨Config.pitBase + 3, Config.pitBase + 3, some .pitMode⟩]
  ++ [⟨0x87, 0x87, some (.dmaPage 0)⟩, ⟨0x83, 0x83, some (.dmaPage 1)⟩,
   ⟨0x81, 0x81, some (.dmaPage 2)⟩, ⟨0x82, 0x82, some (.dmaPage 3)⟩,
   ⟨0x80, 0x8F, some .dmaPageIgnored⟩]

end Sys2Proof.Machine
end

