-- ==== Sys2Proof/Syntax.lean ====
section
/-! DEFINITION. The instructions as syntax. Every row of spec/opcode_table.json is one constructor of `Instr` together with
one operand form: a constructor stands for a mnemonic and the numbered rule that gives it its meaning, and the rows of
one mnemonic and rule (byte or word, register or memory, immediate or not) are the values of its operand form. -/

namespace Sys2Proof

/-- The eight general registers in encoding order 0 to 7 (spec/10_state.md R20). -/
inductive Reg16 where
  | ax | cx | dx | bx | sp | bp | si | di
  deriving DecidableEq, Repr

/-- The eight byte halves in encoding order 0 to 7 (spec/10_state.md R21). -/
inductive Reg8 where
  | al | cl | dl | bl | ah | ch | dh | bh
  deriving DecidableEq, Repr

/-- The four segment registers in encoding order 0 to 3 (spec/10_state.md R23). -/
inductive SReg where
  | es | cs | ss | ds
  deriving DecidableEq, Repr

/-- An operand width where the operand itself does not show it: 8 or 16 bits (spec/30_encoding.md R106, the w bit). -/
inductive Width where
  | byte | word
  deriving DecidableEq, Repr

/-- The eight effective-address formulas, in rm order 0 to 7 (spec/30_encoding.md R108). -/
inductive EaBase where
  | bxSi | bxDi | bpSi | bpDi | si | di | bp | bx
  deriving DecidableEq, Repr

/-- The displacement of a based memory operand: mod 0, 1 or 2 (spec/30_encoding.md R107). -/
inductive Disp where
  | no
  | d8 (d : Byte)
  | d16 (d : Word)
  deriving DecidableEq, Repr

/-- A memory operand (spec/30_encoding.md R107, R108): a formula with a displacement, or a direct 16-bit address. -/
inductive MemOp where
  | based (b : EaBase) (d : Disp)
  | direct (a : Word)
  deriving DecidableEq, Repr

/-- The operand that mod and rm select: a register or memory (spec/30_encoding.md R107, R112). -/
inductive RM (ρ : Type) where
  | reg (r : ρ)
  | mem (m : MemOp)
  deriving DecidableEq, Repr

/-- r/m8 -/
abbrev RM8 := RM Reg8

/-- r/m16 -/
abbrev RM16 := RM Reg16

/-- One operand r/m8 or r/m16 (groups 2 and 3, group 4 and 5 increments). -/
inductive RmForm where
  | b (rm : RM8)
  | w (rm : RM16)
  deriving DecidableEq, Repr

/-- An r/m operand and a register operand of the same width. -/
inductive RmReg where
  | b (rm : RM8) (r : Reg8)
  | w (rm : RM16) (r : Reg16)
  deriving DecidableEq, Repr

/-- An r/m operand and an immediate of the same width. -/
inductive RmImm where
  | b (rm : RM8) (i : Byte)
  | w (rm : RM16) (i : Word)
  deriving DecidableEq, Repr

/-- The accumulator (AL or AX) and an immediate of the same width. -/
inductive AccImm where
  | b (i : Byte)
  | w (i : Word)
  deriving DecidableEq, Repr

/-- A register named in the opcode and an immediate of the same width. -/
inductive RegImm where
  | b (r : Reg8) (i : Byte)
  | w (r : Reg16) (i : Word)
  deriving DecidableEq, Repr

/-- The operand forms of the eight two-operand operations (spec/40_alu.md R150). -/
inductive AluForm where
  /-- `op r/m, r`: destination r/m -/
  | rmReg (x : RmReg)
  /-- `op r, r/m`: destination r -/
  | regRm (x : RmReg)
  /-- `op AL, imm8` and `op AX, imm16` -/
  | accImm (x : AccImm)
  /-- `op r/m, imm` of the operand's width -/
  | rmImm (x : RmImm)
  /-- `op r/m16, imm8s`: the byte is sign-extended -/
  | rmImm8s (rm : RM16) (i : Byte)
  deriving DecidableEq, Repr

/-- The operand forms of TEST (spec/40_alu.md R167). -/
inductive TestForm where
  | rmReg (x : RmReg)
  | accImm (x : AccImm)
  | rmImm (x : RmImm)
  deriving DecidableEq, Repr

/-- The operand forms of INC and DEC (spec/40_alu.md R163, R164). -/
inductive IncForm where
  | r16 (r : Reg16)
  | rm (x : RmForm)
  deriving DecidableEq, Repr

/-- The count of a shift or rotate: 1, CL or an immediate byte (spec/44_shift_rotate.md R330). -/
inductive ShiftCount where
  | one
  | cl
  | imm (i : Byte)
  deriving DecidableEq, Repr

/-- The instructions. The comment on a line gives the rule of the spec that defines the meaning. -/
inductive Instr where
  -- two-operand arithmetic and logic (40_alu.md)
  | add (f : AluForm)                            -- R155
  | or (f : AluForm)                             -- R156
  | adc (f : AluForm)                            -- R157
  | sbb (f : AluForm)                            -- R158
  | and (f : AluForm)                            -- R159
  | sub (f : AluForm)                            -- R160
  | xor (f : AluForm)                            -- R161
  | cmp (f : AluForm)                            -- R162
  -- one-operand arithmetic and logic (40_alu.md)
  | inc (f : IncForm)                            -- R163
  | dec (f : IncForm)                            -- R164
  | neg (x : RmForm)                             -- R165
  | not (x : RmForm)                             -- R166
  | test (f : TestForm)                          -- R167
  -- data movement (41_data_movement.md)
  | movRmReg (x : RmReg)                         -- R200
  | movRegRm (x : RmReg)                         -- R201
  | movRmImm (x : RmImm)                         -- R202
  | movRegImm (x : RegImm)                       -- R203
  | movAccMoffs (w : Width) (off : Word)         -- R204
  | movMoffsAcc (w : Width) (off : Word)         -- R205
  | movSregRm (sr : SReg) (rm : RM16)            -- R206
  | movRmSreg (rm : RM16) (sr : SReg)            -- R207
  | pushReg (r : Reg16)                          -- R208
  | pushSreg (sr : SReg)                         -- R209
  | pushRm (rm : RM16)                           -- R210
  | popReg (r : Reg16)                           -- R211
  | popSreg (sr : SReg)                          -- R212
  | popRm (rm : RM16)                            -- R213
  | xchgRmReg (x : RmReg)                        -- R214
  | xchgAx (r : Reg16)                           -- R215
  | nop                                          -- R216
  | lea (r : Reg16) (m : MemOp)                  -- R217
  | lds (r : Reg16) (m : MemOp)                  -- R218
  | les (r : Reg16) (m : MemOp)                  -- R219
  | xlat                                         -- R220
  | cbw                                          -- R221
  | cwd                                          -- R222
  -- control transfer (42_control_transfer.md)
  | jo (rel : Byte)                              -- R250, condition 0
  | jno (rel : Byte)                             -- R250, condition 1
  | jb (rel : Byte)                              -- R250, condition 2
  | jnb (rel : Byte)                             -- R250, condition 3
  | jz (rel : Byte)                              -- R250, condition 4
  | jnz (rel : Byte)                             -- R250, condition 5
  | jbe (rel : Byte)                             -- R250, condition 6
  | ja (rel : Byte)                              -- R250, condition 7
  | js (rel : Byte)                              -- R250, condition 8
  | jns (rel : Byte)                             -- R250, condition 9
  | jp (rel : Byte)                              -- R250, condition 10
  | jnp (rel : Byte)                             -- R250, condition 11
  | jl (rel : Byte)                              -- R250, condition 12
  | jge (rel : Byte)                             -- R250, condition 13
  | jle (rel : Byte)                             -- R250, condition 14
  | jg (rel : Byte)                              -- R250, condition 15
  | jmpShort (rel : Byte)                        -- R251
  | jmpNear (rel : Word)                         -- R252
  | jmpFar (off seg : Word)                      -- R253
  | jmpRm (rm : RM16)                            -- R254
  | jmpMem (m : MemOp)                           -- R255
  | callNear (rel : Word)                        -- R256
  | callFar (off seg : Word)                     -- R257
  | callRm (rm : RM16)                           -- R258
  | callMem (m : MemOp)                          -- R259
  | ret                                          -- R260
  | retImm (n : Word)                            -- R261
  | retf                                         -- R262
  | retfImm (n : Word)                           -- R263
  | loop (rel : Byte)                            -- R264
  | loopz (rel : Byte)                           -- R265
  | loopnz (rel : Byte)                          -- R266
  | jcxz (rel : Byte)                            -- R267
  -- string instructions (43_string.md)
  | movsb | movsw                                -- R302
  | cmpsb | cmpsw                                -- R303
  | stosb | stosw                                -- R304
  | lodsb | lodsw                                -- R305
  | scasb | scasw                                -- R306
  | insb | insw                                  -- R307
  | outsb | outsw                                -- R308
  -- shifts and rotates (44_shift_rotate.md)
  | rol (x : RmForm) (n : ShiftCount)            -- R331
  | ror (x : RmForm) (n : ShiftCount)            -- R332
  | rcl (x : RmForm) (n : ShiftCount)            -- R333
  | rcr (x : RmForm) (n : ShiftCount)            -- R334
  | shl (x : RmForm) (n : ShiftCount)            -- R335
  | shr (x : RmForm) (n : ShiftCount)            -- R336
  | sar (x : RmForm) (n : ShiftCount)            -- R337
  -- multiply and divide (45_muldiv.md, 49_ext186.md)
  | mul (x : RmForm)                             -- R360
  | imul (x : RmForm)                            -- R361
  | imulImm16 (r : Reg16) (rm : RM16) (i : Word) -- R466
  | imulImm8 (r : Reg16) (rm : RM16) (i : Byte)  -- R467
  | div (x : RmForm)                             -- R362
  | idiv (x : RmForm)                            -- R363
  -- decimal and ASCII adjust (46_bcd.md)
  | daa                                          -- R380
  | das                                          -- R381
  | aaa                                          -- R382
  | aas                                          -- R383
  | aam (base : Byte)                            -- R384
  | aad (base : Byte)                            -- R385
  -- flags and ports (47_flags_io.md)
  | clc                                          -- R400
  | stc                                          -- R401
  | cmc                                          -- R402
  | cld                                          -- R403
  | std                                          -- R404
  | cli                                          -- R405
  | sti                                          -- R406
  | lahf                                         -- R407
  | sahf                                         -- R408
  | pushf                                        -- R409
  | popf                                         -- R410
  | inImm (w : Width) (port : Byte)              -- R411
  | inDx (w : Width)                             -- R412
  | outImm (w : Width) (port : Byte)             -- R413
  | outDx (w : Width)                            -- R414
  -- interrupts and miscellaneous (48_int_misc.md)
  | int3                                         -- R430
  | int (n : Byte)                               -- R431
  | into                                         -- R432
  | iret                                         -- R433
  | hlt                                          -- R437
  | lock                                         -- R438
  | wait                                         -- R439
  | esc (sel reg : BitVec 3) (rm : RM16)         -- R440
  /-- an illegal encoding that consumes the opcode byte only (R125, R445) -/
  | illegalOp (op : Byte)
  /-- an illegal encoding that consumes opcode, ModRM and displacement (R125, R445) -/
  | illegalModrm (op : Byte) (reg : BitVec 3) (rm : RM16)
  -- 80186/V20 additions (49_ext186.md)
  | pusha                                        -- R461
  | popa                                         -- R462
  | bound (r : Reg16) (m : MemOp)                -- R463
  | pushImm16 (i : Word)                         -- R464
  | pushImm8 (i : Byte)                          -- R465
  | enter (size : Word) (level : Byte)           -- R469
  | leave                                        -- R470
  -- prefix bytes (30_encoding.md R104): decoding continues with the next byte
  | segEs | segCs | segSs | segDs
  | repne | rep
  deriving DecidableEq, Repr

end Sys2Proof
end

