-- ==== Sys2Proof/Machine/State.lean ====
section
/-! DEFINITION. The state of the machine as plain data: every piece of state that spec/10_state.md, spec/20_memory.md,
spec/60_exceptions.md and spec/61_devices.md name, the reasons a step can stop, and the state after reset. -/

namespace Sys2Proof.Machine

/-! ### CPU -/

/-- The eight general registers (R20). -/
structure Regs where
  ax : Word
  cx : Word
  dx : Word
  bx : Word
  sp : Word
  bp : Word
  si : Word
  di : Word
  deriving DecidableEq, Repr

/-- The four segment registers (R23). -/
structure SegRegs where
  es : Word
  cs : Word
  ss : Word
  ds : Word
  deriving DecidableEq, Repr

/-- The nine one-bit flags (R25); `ifl` is IF. -/
structure Flags where
  cf : Bool
  pf : Bool
  af : Bool
  zf : Bool
  sf : Bool
  tf : Bool
  ifl : Bool
  df : Bool
  ofl : Bool
  deriving DecidableEq, Repr

/-- `rep_mode` (R32): F3 is `repe` (REP and REPE), F2 is `repne` (spec/30_encoding.md R104). -/
inductive RepMode where
  | norep | repe | repne
  deriving DecidableEq, Repr

/-! ### Devices -/

/-- `icwstep` (R550): no initialisation in progress, or which ICW the next data-port write is. -/
inductive IcwStep where
  | idle | icw2 | icw3 | icw4
  deriving DecidableEq, Repr

/-- The interrupt controller (R550). `vectorBase` is `icw2`; `readIsr` is `readmode`. -/
structure Pic where
  irr : Byte
  isr : Byte
  imr : Byte
  icw1 : Byte
  icw2 : Byte
  icw3 : Byte
  icw4 : Byte
  icwstep : IcwStep
  readIsr : Bool
  catchup : Nat
  deriving DecidableEq, Repr

/-- The access mode of a PIT channel (R570), by its code 0 to 3. -/
inductive Access where
  | latch | lo | hi | toggle
  deriving DecidableEq, Repr

/-- A channel of the interval timer (R570); `flipHigh` is `flip` = 1. -/
structure PitChannel where
  reload : Word
  counter : Word
  access : Access
  flipHigh : Bool
  active : Bool
  deriving DecidableEq, Repr

/-- The interval timer: channels 0 to 2 (R570). -/
structure Pit where
  ch0 : PitChannel
  ch1 : PitChannel
  ch2 : PitChannel
  deriving DecidableEq, Repr

/-- A channel of the DMA controller (R590); `descend` is `direction` = 1. -/
structure DmaChannel where
  page : Byte
  address : Word
  reload : Word
  count : Nat
  descend : Bool
  autoinit : Bool
  writemode : Bool
  masked : Bool
  deriving DecidableEq, Repr

/-- The DMA controller: channels 0 to 3 and the shared flip-flop (R590); `flipHigh` is `flipflop` = 1. -/
structure Dma where
  ch0 : DmaChannel
  ch1 : DmaChannel
  ch2 : DmaChannel
  ch3 : DmaChannel
  flipHigh : Bool
  deriving DecidableEq, Repr

/-- The timing scheduler: the host tick and the (lastServiced, interval) pair of the one device of the block that it
services, the PIT (R620). notes/assumptions/8. -/
structure Scheduler where
  hostTick : Nat
  lastServiced : Nat
  interval : Nat
  deriving DecidableEq, Repr

/-! ### The block's inputs and outputs -/

/-- An external event between two slots (R9, R501, R560). Line and channel are natural numbers because a call with one
that does not exist is absorbed (R553, R596). -/
inductive Event where
  /-- a device asserts an interrupt request (R553) -/
  | doirq (line : Nat)
  /-- a sound device pulls one byte (R596) -/
  | dmaRead (channel : Nat)
  /-- the scheduler increments the catch-up counter (R560) -/
  | catchUp
  /-- the host calls `TimingScheduler.tick()` when its clock reads `now` (R11, R621) -/
  | tick (now : Nat)
  /-- step 1a of the slot when the host clock reads `now`: the poll, when the counter is on the cadence (R500, R501) -/
  | poll (now : Nat)
  /-- the host clears the running flag (R9) -/
  | stop
  deriving DecidableEq, Repr

/-- An output event of the block. -/
inductive Output where
  /-- `Display.onMemoryWrite(addr, v)` (R66) -/
  | display (a : Addr) (v : Byte)
  /-- the byte `DmaRead(channel)` returned (R596) -/
  | dmaByte (channel : Nat) (v : Byte)
  /-- a byte written to a port handler of the platform (R612) -/
  | portWrite (port : Word) (v : Byte)
  deriving DecidableEq, Repr

/-! ### The state -/

/-- The state of the machine. -/
structure State where
  /-- the general registers (R20) -/
  regs : Regs
  /-- the segment registers (R23) -/
  segs : SegRegs
  /-- the instruction pointer (R24) -/
  ip : Word
  /-- the nine flags (R25) -/
  flags : Flags
  /-- the halt state (R30) -/
  halt : Bool
  /-- the trap latch (R31) -/
  trapLatch : Bool
  /-- the segment override of the instruction being decoded (R32) -/
  segOverride : Option SReg
  /-- the repeat mode of the instruction being decoded (R32) -/
  repMode : RepMode
  /-- IP before the first prefix byte of the instruction being decoded (R32) -/
  firstIp : Word
  /-- physical memory (R60) -/
  mem : Memory
  /-- the read-only map (R60) -/
  ro : RoMap
  /-- the interrupt controller (R550) -/
  pic : Pic
  /-- the interval timer (R570) -/
  pit : Pit
  /-- the DMA controller (R590) -/
  dma : Dma
  /-- the port table (R610) -/
  ports : List PortRange
  /-- the timing scheduler (R620) -/
  sched : Scheduler
  /-- the instruction counter (R33, R500). notes/assumptions/19. -/
  instrCount : Nat
  /-- the running flag, a host input (R9, R33). notes/assumptions/19. -/
  running : Bool
  /-- the model's own: how many free values have been drawn (R18). notes/assumptions/18. -/
  draws : Nat
  /-- the model's own: the external events of the coming slot boundaries, the next one first
  (R9, D22, P5). notes/assumptions/7. -/
  events : List (List Event)
  /-- the model's own: the output events of the block, the newest first (R66). notes/assumptions/9. -/
  outputs : List Output
  deriving DecidableEq, Repr

/-- Why the machine stops. -/
inductive Fault where
  /-- Raised by the slot loop when 65 536 prefix bytes in a row leave the decoder without an opcode: the slot never ends
  (R646, U16 of spec/93_implementation_defined.md: treatment `stuck`). Safe: the hardware makes no further progress. -/
  | endlessPrefixes
  deriving DecidableEq, Repr

/-- Why the model has no next state to give. -/
inductive Refusal where
  /-- An instruction that is still rejected by name in Dispatch.lean. Safe: nothing is claimed of it. -/
  | notModelled (mnemonic : String)
  /-- The slot loop when the fetched bytes end before the instruction does. It cannot happen: the loop fetches six bytes, the
  longest instruction (R102). Safe. notes/assumptions/21. -/
  | truncatedInstruction
  /-- `State.boot` when no image covers a byte: "the VM refuses to start" (R634, U9: treatment `refuse`). Safe: not a state of
  this hardware. notes/assumptions/29. -/
  | noImage
  deriving DecidableEq, Repr

/-! ### Field updates -/

def State.setRegs (s : State) (v : Regs) : State := { s with regs := v }
def State.setSegs (s : State) (v : SegRegs) : State := { s with segs := v }
def State.setIp (s : State) (v : Word) : State := { s with ip := v }
def State.setFlags (s : State) (v : Flags) : State := { s with flags := v }
def State.setHalt (s : State) (v : Bool) : State := { s with halt := v }
def State.setTrapLatch (s : State) (v : Bool) : State := { s with trapLatch := v }
def State.setSegOverride (s : State) (v : Option SReg) : State := { s with segOverride := v }
def State.setRepMode (s : State) (v : RepMode) : State := { s with repMode := v }
def State.setFirstIp (s : State) (v : Word) : State := { s with firstIp := v }
def State.setMem (s : State) (v : Memory) : State := { s with mem := v }
def State.setRo (s : State) (v : RoMap) : State := { s with ro := v }
def State.setPic (s : State) (v : Pic) : State := { s with pic := v }
def State.setPit (s : State) (v : Pit) : State := { s with pit := v }
def State.setDma (s : State) (v : Dma) : State := { s with dma := v }
def State.setPorts (s : State) (v : List PortRange) : State := { s with ports := v }
def State.setSched (s : State) (v : Scheduler) : State := { s with sched := v }
def State.setInstrCount (s : State) (v : Nat) : State := { s with instrCount := v }
def State.setRunning (s : State) (v : Bool) : State := { s with running := v }
def State.setDraws (s : State) (v : Nat) : State := { s with draws := v }
def State.setEvents (s : State) (v : List (List Event)) : State := { s with events := v }
def State.setOutputs (s : State) (v : List Output) : State := { s with outputs := v }

/-! ### Reset -/

/-- The flags after reset: all nine 0 (R37). -/
def Flags.clear : Flags := ⟨false, false, false, false, false, false, false, false, false⟩

/-- The segment registers after reset: CS = 0xFFFF, the others 0 (R37). -/
def SegRegs.reset : SegRegs := { es := 0, cs := 0xFFFF, ss := 0, ds := 0 }

/-- The PIC at power-on (R551). -/
def Pic.reset : Pic :=
  { irr := 0, isr := 0, imr := 0, icw1 := 0, icw2 := 0, icw3 := 0, icw4 := 0, icwstep := .idle, readIsr := false,
    catchup := 0 }

/-- A PIT channel at power-on (R571). -/
def PitChannel.reset : PitChannel := { reload := 0, counter := 0, access := .latch, flipHigh := false, active := false }

/-- The PIT at power-on (R571). -/
def Pit.reset : Pit := ⟨.reset, .reset, .reset⟩

/-- A DMA channel at power-on: every cell 0, masked (R591). -/
def DmaChannel.reset : DmaChannel :=
  { page := 0, address := 0, reload := 0, count := 0, descend := false, autoinit := false, writemode := false,
    masked := true }

/-- The DMA controller at power-on (R591). -/
def Dma.reset : Dma := ⟨.reset, .reset, .reset, .reset, false⟩

/-- The general registers that `State.reset` holds. DESIGN CHOICE, unsafe: the spec leaves them unspecified (R37).
notes/assumptions/4. -/
def Regs.zero : Regs := { ax := 0, cx := 0, dx := 0, bx := 0, sp := 0, bp := 0, si := 0, di := 0 }

/-- The machine at power-on with given general registers, memory and read-only map, the three things that R37 and R634
leave to the environment. -/
def State.powerOn (regs : Regs) (mem : Memory) (ro : RoMap) : State where
  regs := regs
  segs := .reset
  ip := 0
  flags := .clear
  halt := false
  trapLatch := false
  segOverride := none
  repMode := .norep
  firstIp := 0
  mem := mem
  ro := ro
  pic := .reset
  pit := .reset
  dma := .reset
  ports := blockPorts
  sched := { hostTick := 0, lastServiced := 0, interval := 0 }
  instrCount := 0
  running := true
  draws := 0
  events := []
  outputs := []

/-- The machine right after reset with no image loaded (R37, R631). notes/assumptions/4, 6, 10. -/
def State.reset : State := State.powerOn .zero [] []

end Sys2Proof.Machine
end

