-- ==== Sys2Proof/Machine/Dma.lean ====
section
/-! DEFINITION. The DMA controller (spec/61_devices.md R590 to R598) as functions of its state. -/

namespace Sys2Proof.Machine

/-- Channel c. -/
def Dma.get (d : Dma) (c : Fin 4) : DmaChannel :=
  match c with
  | 0 => d.ch0 | 1 => d.ch1 | 2 => d.ch2 | 3 => d.ch3

/-- Channel c replaced. -/
def Dma.set (d : Dma) (c : Fin 4) (x : DmaChannel) : Dma :=
  match c with
  | 0 => { d with ch0 := x } | 1 => { d with ch1 := x } | 2 => { d with ch2 := x } | 3 => { d with ch3 := x }

/-- The channel that the low two bits of a byte name (R594). -/
def dmaChannelOf (v : Byte) : Fin 4 := (v.extractLsb' 0 2).toFin

/-- A word with one byte replaced: the high one when `high`. -/
def replaceByte (w : Word) (high : Bool) (v : Byte) : Word :=
  if high then wordOf v (low8 w) else wordOf (high8 w) v

/-- A write to an address port (R593). -/
def Dma.writeAddress (d : Dma) (c : Fin 4) (v : Byte) : Dma :=
  let x := d.get c
  { d.set c { x with address := replaceByte x.address d.flipHigh v } with flipHigh := !d.flipHigh }

/-- A write to a count port: the byte of `reload`, and `count` starts again (R593). -/
def Dma.writeCount (d : Dma) (c : Fin 4) (v : Byte) : Dma :=
  let x := d.get c
  { d.set c { x with reload := replaceByte x.reload d.flipHigh v, count := 0 } with flipHigh := !d.flipHigh }

/-- A write to the mask port (R594). -/
def Dma.writeMask (d : Dma) (v : Byte) : Dma :=
  let c := dmaChannelOf v
  d.set c { d.get c with masked := v.getLsbD 2 }

/-- A write to the mode port (R594). -/
def Dma.writeMode (d : Dma) (v : Byte) : Dma :=
  let c := dmaChannelOf v
  d.set c { d.get c with descend := v.getLsbD 5, autoinit := v.getLsbD 4, writemode := v.getLsbD 2 }

/-- A write to the clear port (R594). -/
def Dma.clearFlipFlop (d : Dma) : Dma := { d with flipHigh := false }

/-- A write to a page port (R595). -/
def Dma.writePage (d : Dma) (c : Fin 4) (v : Byte) : Dma := d.set c { d.get c with page := v }

/-- A channel after the auto-init step of `DmaRead` (R596). -/
def DmaChannel.rearmed (x : DmaChannel) : DmaChannel :=
  if x.autoinit && decide (x.reload.toNat < x.count) then { x with count := 0 } else x

/-- The address of the next byte of a channel: `page * 65536 + address` plus or minus `count`, to 20 bits (R596). -/
def DmaChannel.transferAddr (x : DmaChannel) : Addr :=
  let base : Int := x.page.toNat * 65536 + x.address.toNat
  BitVec.ofInt 20 (if x.descend then base - x.count else base + x.count)

/-- A channel after `DmaRead` (R596). -/
def DmaChannel.afterRead (x : DmaChannel) : DmaChannel :=
  if x.masked then x
  else
    let y := x.rearmed
    if y.reload.toNat < y.count then y else { y with count := y.count + 1 }

/-- The address that `DmaRead` reads, or none when it returns the sentinel (R596). -/
def DmaChannel.readAddr (x : DmaChannel) : Option Addr :=
  if x.masked then none
  else
    let y := x.rearmed
    if y.reload.toNat < y.count then none else some y.transferAddr

end Sys2Proof.Machine
end

