-- ==== Sys2Proof/Machine/Flags.lean ====
section
/-! DEFINITION. The FLAGS word (spec/10_state.md R26 to R28) and every flag computation of spec/40_alu.md R151 to R154 and
spec/44_shift_rotate.md R331 to R339, as functions of values. -/

namespace Sys2Proof.Machine

/-! ### The FLAGS word -/

/-- The word with bit n equal to b and every other bit 0. -/
def flagBit (b : Bool) (n : Nat) : Word := (BitVec.ofBool b).setWidth 16 <<< n

/-- `FlagsWord()` (R27). -/
def Flags.word (f : Flags) : Word :=
  Config.flagsFixedOnes ||| flagBit f.cf 0 ||| flagBit f.pf 2 ||| flagBit f.af 4 ||| flagBit f.zf 6 ||| flagBit f.sf 7
    ||| flagBit f.tf 8 ||| flagBit f.ifl 9 ||| flagBit f.df 10 ||| flagBit f.ofl 11

/-- The flags that `SetFlagsWord(v)` leaves (R28). -/
def Flags.ofWord (v : Word) : Flags where
  cf := v.getLsbD 0
  pf := v.getLsbD 2
  af := v.getLsbD 4
  zf := v.getLsbD 6
  sf := v.getLsbD 7
  tf := v.getLsbD 8
  ifl := v.getLsbD 9
  df := v.getLsbD 10
  ofl := v.getLsbD 11

/-- The flags that SAHF leaves: the low byte of the FLAGS layout (spec/47_flags_io.md R408). -/
def Flags.withLowByte (f : Flags) (v : Byte) : Flags :=
  { f with sf := v.getLsbD 7, zf := v.getLsbD 6, af := v.getLsbD 4, pf := v.getLsbD 2, cf := v.getLsbD 0 }

/-- The flags that vectoring leaves: IF and TF cleared, the others kept (spec/60_exceptions.md R510). -/
def Flags.masked (f : Flags) : Flags := { f with ifl := false, tf := false }

/-! ### Arithmetic (R151 to R153) -/

/-- PF of a result: the parity of its low eight bits (R151). -/
def parityOf {w : Nat} (res : BitVec w) : Bool := parity8 (res.setWidth 8)

/-- `SetSZP_w(res)` (R151). -/
def Flags.withSzp {w : Nat} (f : Flags) (res : BitVec w) : Flags :=
  { f with zf := res == 0, sf := res.msb, pf := parityOf res }

/-- The value of `Add_w(a, b, c)`: the unbounded sum reduced modulo 2^w (R152). -/
def addResult {w : Nat} (a b : BitVec w) (c : Bool) : BitVec w := BitVec.ofNat w (a.toNat + b.toNat + c.toNat)

/-- The flags that `Add_w(a, b, c)` writes (R152). -/
def Flags.afterAdd {w : Nat} (f : Flags) (a b : BitVec w) (c : Bool) : Flags :=
  let res := addResult a b c
  { f.withSzp res with
    cf := decide (2 ^ w ≤ a.toNat + b.toNat + c.toNat)
    ofl := ((res ^^^ a) &&& (res ^^^ b)).msb
    af := (a ^^^ b ^^^ res).getLsbD 4 }

/-- The value of `Sub_w(a, b, c)`: the integer difference reduced modulo 2^w (R153). -/
def subResult {w : Nat} (a b : BitVec w) (c : Bool) : BitVec w :=
  BitVec.ofInt w ((a.toNat : Int) - b.toNat - c.toNat)

/-- The flags that `Sub_w(a, b, c)` writes (R153). -/
def Flags.afterSub {w : Nat} (f : Flags) (a b : BitVec w) (c : Bool) : Flags :=
  let res := subResult a b c
  { f.withSzp res with
    cf := decide (a.toNat < b.toNat + c.toNat)
    ofl := ((a ^^^ b) &&& (a ^^^ res)).msb
    af := (a ^^^ b ^^^ res).getLsbD 4 }

/-- The flags that `Logic_w(res)` writes; `free` is the draw for AF (R154, U1). -/
def Flags.afterLogic {w : Nat} (f : Flags) (res : BitVec w) (free : Bool) : Flags :=
  { f.withSzp res with cf := false, ofl := false, af := free }

/-- INC keeps CF (R163). -/
def Flags.afterInc {w : Nat} (f : Flags) (a : BitVec w) : Flags := { f.afterAdd a 1 false with cf := f.cf }

/-- DEC keeps CF (R164). -/
def Flags.afterDec {w : Nat} (f : Flags) (a : BitVec w) : Flags := { f.afterSub a 1 false with cf := f.cf }

/-! ### Shifts and rotates (R330 to R339) -/

/-- The seven operations of group 2. -/
inductive ShiftOp where
  | rol | ror | rcl | rcr | shl | shr | sar
  deriving DecidableEq, Repr

/-- A value whose top bit is c and whose other bits are 0. -/
def topBit {w : Nat} (c : Bool) : BitVec w := (BitVec.ofBool c).setWidth w <<< (w - 1)

/-- A value whose bit 0 is c and whose other bits are 0. -/
def bottomBit {w : Nat} (c : Bool) : BitVec w := (BitVec.ofBool c).setWidth w

/-- One turn of an operation's repeat loop on the value and CF (R331 to R337). -/
def ShiftOp.turn {w : Nat} : ShiftOp → BitVec w × Bool → BitVec w × Bool
  | .rol, (v, _) => (v <<< 1 ||| bottomBit v.msb, v.msb)
  | .ror, (v, _) => (v >>> 1 ||| topBit (v.getLsbD 0), v.getLsbD 0)
  | .rcl, (v, c) => (v <<< 1 ||| bottomBit c, v.msb)
  | .rcr, (v, c) => (v >>> 1 ||| topBit c, v.getLsbD 0)
  | .shl, (v, _) => (v <<< 1, v.msb)
  | .shr, (v, _) => (v >>> 1, v.getLsbD 0)
  | .sar, (v, _) => (v >>> 1 ||| topBit v.msb, v.getLsbD 0)

/-- n turns. -/
def ShiftOp.turns {w : Nat} (op : ShiftOp) : Nat → BitVec w × Bool → BitVec w × Bool
  | 0, x => x
  | n + 1, x => op.turns n (op.turn x)

/-- OF after one turn, from the value and CF before and after (R331 to R337, column `n == 1`). -/
def ShiftOp.unitOverflow {w : Nat} (op : ShiftOp) (v : BitVec w) (c : Bool) (res : BitVec w) (cf : Bool) : Bool :=
  match op with
  | .rol => res.msb ^^ cf
  | .ror => res.msb ^^ res.getLsbD (w - 2)
  | .rcl => res.msb ^^ cf
  | .rcr => v.msb ^^ c
  | .shl => res.msb ^^ cf
  | .shr => v.msb
  | .sar => false

/-- Does the operation write SF, ZF, PF and leave AF unspecified (R339)? -/
def ShiftOp.writesSzp : ShiftOp → Bool
  | .shl | .shr | .sar => true
  | .rol | .ror | .rcl | .rcr => false

/-- The flags after n > 0 turns of an operation on v; `freeOf` is the draw for OF when n > 1, `freeAf` the draw for AF
after a shift (R339, U4). -/
def Flags.afterShift {w : Nat} (f : Flags) (op : ShiftOp) (n : Nat) (v : BitVec w) (freeOf freeAf : Bool) : Flags :=
  let r := op.turns n (v, f.cf)
  let g : Flags := { f with cf := r.2, ofl := if n = 1 then op.unitOverflow v f.cf r.1 r.2 else freeOf }
  if op.writesSzp then { g.withSzp r.1 with af := freeAf } else g

end Sys2Proof.Machine
end

