-- ==== Sys2Proof/Machine/Ops.lean ====
section
/-! DEFINITION. The named operations over registers, memory and the stack (spec/10_state.md R20 to R28, spec/20_memory.md
R61 to R71), free values (spec/00_scope.md R18), taking an exception (spec/60_exceptions.md R510) and the return from one
(spec/48_int_misc.md R433). -/

namespace Sys2Proof.Machine

/-! ### General registers (R20, R21) -/

/-- `R16[r]` -/
def Regs.get (g : Regs) : Reg16 → Word
  | .ax => g.ax | .cx => g.cx | .dx => g.dx | .bx => g.bx
  | .sp => g.sp | .bp => g.bp | .si => g.si | .di => g.di

/-- `R16[r] <- v` -/
def Regs.set (g : Regs) (r : Reg16) (v : Word) : Regs :=
  match r with
  | .ax => { g with ax := v } | .cx => { g with cx := v } | .dx => { g with dx := v } | .bx => { g with bx := v }
  | .sp => { g with sp := v } | .bp => { g with bp := v } | .si => { g with si := v } | .di => { g with di := v }

/-- `R16[r]` -/
def State.reg (s : State) (r : Reg16) : Word := s.regs.get r

/-- `R16[r] <- v` -/
def State.setReg (s : State) (r : Reg16) (v : Word) : State := s.setRegs (s.regs.set r v)

/-- The 16-bit register that holds a byte half (R21). -/
def wordReg : Reg8 → Reg16
  | .al | .ah => .ax | .cl | .ch => .cx | .dl | .dh => .dx | .bl | .bh => .bx

/-- Is the byte half bits 15:8 (R21)? -/
def isHighHalf : Reg8 → Bool
  | .al | .cl | .dl | .bl => false
  | .ah | .ch | .dh | .bh => true

/-- `R8[r]` (R21). -/
def State.reg8 (s : State) (r : Reg8) : Byte :=
  if isHighHalf r then high8 (s.reg (wordReg r)) else low8 (s.reg (wordReg r))

/-- `R8[r] <- v`: the other half keeps its value (R21). -/
def State.setReg8 (s : State) (r : Reg8) (v : Byte) : State :=
  let old := s.reg (wordReg r)
  s.setReg (wordReg r) (if isHighHalf r then wordOf v (low8 old) else wordOf (high8 old) v)

/-! ### Segment registers (R23) -/

/-- `SR[r]` -/
def SegRegs.get (g : SegRegs) : SReg → Word
  | .es => g.es | .cs => g.cs | .ss => g.ss | .ds => g.ds

/-- `SR[r] <- v` -/
def SegRegs.set (g : SegRegs) (r : SReg) (v : Word) : SegRegs :=
  match r with
  | .es => { g with es := v } | .cs => { g with cs := v } | .ss => { g with ss := v } | .ds => { g with ds := v }

/-- `SR[r]` -/
def State.seg (s : State) (r : SReg) : Word := s.segs.get r

/-- `SR[r] <- v` -/
def State.setSeg (s : State) (r : SReg) (v : Word) : State := s.setSegs (s.segs.set r v)

/-! ### Free values (R18) -/

/-- The k-th free bit of this execution. notes/assumptions/1. -/
def State.freeBit (s : State) (k : Nat) : Bool := Config.freeBit (s.draws + k)

/-- n free values have been drawn. notes/assumptions/18. -/
def State.drew (s : State) (n : Nat) : State := s.setDraws (s.draws + n)

/-! ### Memory (R61 to R68) -/

/-- `Phys(seg, off)` (R61). -/
def phys (sg off : Word) : Addr := BitVec.ofNat 20 (sg.toNat * 16 + off.toNat)

/-- Is the address in `VIDEO_WINDOW` (R66)? -/
def inVideoWindow (a : Addr) : Bool := decide (Config.videoFirst ≤ a.toNat) && decide (a.toNat ≤ Config.videoLast)

/-- `MemRead(a, 1)` (R63). -/
def State.readByte (s : State) (a : Addr) : Byte := s.mem.read a.toNat

/-- `MemRead(a, 2)`, little-endian (R65). -/
def State.readWord (s : State) (a : Addr) : Word := wordOf (s.readByte (a + 1)) (s.readByte a)

/-- Emit an output event. notes/assumptions/9. -/
def State.emit (s : State) (o : Output) : State := s.setOutputs (o :: s.outputs)

/-- `MemWrite(a, 1, v)`: dropped at a read-only address (R64), notified in the video window (R66). -/
def State.writeByte (s : State) (a : Addr) (v : Byte) : State :=
  if s.ro.has a.toNat then s
  else
    let t := s.setMem (s.mem.write a.toNat v)
    if inVideoWindow a then t.emit (.display a v) else t

/-- `MemWrite(a, 2, v)`: two byte writes, the low byte first (R65). -/
def State.writeWord (s : State) (a : Addr) (v : Word) : State :=
  (s.writeByte a (low8 v)).writeByte (a + 1) (high8 v)

/-- `ReadSeg(sg, off, 8)` (spec/00_scope.md R14). -/
def State.readSeg8 (s : State) (sg off : Word) : Byte := s.readByte (phys sg off)

/-- `ReadSeg(sg, off, 16)`: the second byte is at the next physical address (R68). -/
def State.readSeg16 (s : State) (sg off : Word) : Word := s.readWord (phys sg off)

/-- `WriteSeg(sg, off, 8, v)`. -/
def State.writeSeg8 (s : State) (sg off : Word) (v : Byte) : State := s.writeByte (phys sg off) v

/-- `WriteSeg(sg, off, 16, v)`. -/
def State.writeSeg16 (s : State) (sg off v : Word) : State := s.writeWord (phys sg off) v

/-! ### The stack (R71) -/

/-- The state after `SP <- trunc_16(SP - 2)`. -/
def State.grown (s : State) : State := s.setReg .sp (s.reg .sp - 2)

/-- Write v at SS:SP. -/
def State.writeTop (s : State) (v : Word) : State := s.writeSeg16 (s.seg .ss) (s.reg .sp) v

/-- `Push16(v)` (R71). -/
def State.push16 (s : State) (v : Word) : State := s.grown.writeTop v

/-- The word that `Pop16()` returns (R71). -/
def State.top (s : State) : Word := s.readSeg16 (s.seg .ss) (s.reg .sp)

/-- The state that `Pop16()` leaves (R71). -/
def State.popped (s : State) : State := s.setReg .sp (s.reg .sp + 2)

/-! ### Exceptions -/

/-- The physical address of vector table entry n: `4n`, with no segment (R75, R512). -/
def vectorAddr (n : Byte) : Addr := BitVec.ofNat 20 (4 * n.toNat)

/-- CS:IP loaded from vector table entry n: offset at 4n, segment at 4n + 2 (R510). -/
def State.loadVector (s : State) (n : Byte) : State :=
  (s.setIp (s.readWord (vectorAddr n))).setSeg .cs (s.readWord (vectorAddr n + 2))

/-- `IntCall(n)` (R510): push FLAGS, CS and IP, clear IF and TF, load CS:IP from the vector table. -/
def State.intCall (s : State) (n : Byte) : State :=
  let t := ((s.push16 s.flags.word).push16 (s.seg .cs)).push16 s.ip
  (t.setFlags s.flags.masked).loadVector n

/-- The return from an exception (spec/48_int_misc.md R433): pop IP, CS and FLAGS. -/
def State.returnFromInterrupt (s : State) : State :=
  (((s.popped.popped.popped).setIp s.top).setSeg .cs s.popped.top).setFlags (Flags.ofWord s.popped.popped.top)

end Sys2Proof.Machine
end

