-- ==== Sys2Proof/Machine/Pic.lean ====
section
/-! DEFINITION. The interrupt controller (spec/61_devices.md R550 to R562) as functions of its state. -/

namespace Sys2Proof.Machine

/-- The lines that are requested and not masked. -/
def Pic.pending (p : Pic) : Byte := p.irr &&& ~~~ p.imr

/-- `PicEligible()` (R552). -/
def Pic.eligible (p : Pic) : Bool := p.pending != 0

/-- `doirq(line)`: set a request bit; a line above 7 is absorbed (R553). -/
def Pic.doirq (p : Pic) (line : Nat) : Pic :=
  if h : line < 8 then { p with irr := setBit p.irr ⟨line, h⟩ } else p

/-- The state that `NextIntr()` leaves: the lowest eligible line moves from IRR to ISR (R554). Without an eligible line it
is never called (U10); then nothing changes. -/
def Pic.acknowledged (p : Pic) : Pic :=
  match lowestBit p.pending with
  | some i => { p with irr := clearBit p.irr i, isr := setBit p.isr i }
  | none => p

/-- The vector that `NextIntr()` returns: `trunc_8(vectorBase + L)` (R554). -/
def Pic.vector (p : Pic) : Byte :=
  match lowestBit p.pending with
  | some i => p.icw2 + BitVec.ofNat 8 i.val
  | none => p.icw2

/-- The EOI: clear the lowest in-service bit; when that was line 0 and the catch-up counter is not 0, re-arm line 0
(R557, R560). -/
def Pic.eoi (p : Pic) : Pic :=
  match lowestBit p.isr with
  | none => p
  | some i =>
    let q := { p with isr := clearBit p.isr i }
    if i.val = 0 ∧ 0 < p.catchup then { q with catchup := 0, irr := setBit p.irr 0 } else q

/-- A write to the command port: ICW1, else OCW3, else OCW2 (R555). -/
def Pic.writeCommand (p : Pic) (v : Byte) : Pic :=
  if v.getLsbD 4 then { p with icw1 := v, imr := 0, icwstep := .icw2 }
  else if v.getLsbD 3 then (if v.getLsbD 1 then { p with readIsr := v.getLsbD 0 } else p)
  else if v.getLsbD 5 then p.eoi
  else p

/-- Does the initialisation sequence take an ICW4 (R556)? -/
def Pic.needsIcw4 (p : Pic) : Bool := p.icw1.getLsbD 0 || Config.picIcw4Always

/-- A write to the data port: the next ICW, or IMR (R556). -/
def Pic.writeData (p : Pic) (v : Byte) : Pic :=
  match p.icwstep with
  | .icw2 =>
    { p with icw2 := v
             icwstep := if p.icw1.getLsbD 1 = false then .icw3 else if p.needsIcw4 then .icw4 else .idle }
  | .icw3 => { p with icw3 := v, icwstep := if p.needsIcw4 then .icw4 else .idle }
  | .icw4 => { p with icw4 := v, icwstep := .idle }
  | .idle => { p with imr := v }

/-- A read of the command port (R558). -/
def Pic.readCommand (p : Pic) : Byte := if p.readIsr then p.isr else p.irr

/-- A read of the data port (R559). -/
def Pic.readData (p : Pic) : Byte := p.imr

/-- The scheduler increments the catch-up counter (R560). -/
def Pic.catchUp (p : Pic) : Pic := { p with catchup := p.catchup + 1 }

end Sys2Proof.Machine
end

