-- ==== Sys2Proof/Machine/Pit.lean ====
section
/-! DEFINITION. The interval timer (spec/61_devices.md R570 to R581) as functions of its state. -/

namespace Sys2Proof.Machine

/-- Channel c. -/
def Pit.get (p : Pit) (c : Fin 3) : PitChannel :=
  match c with
  | 0 => p.ch0 | 1 => p.ch1 | 2 => p.ch2

/-- Channel c replaced. -/
def Pit.set (p : Pit) (c : Fin 3) (x : PitChannel) : Pit :=
  match c with
  | 0 => { p with ch0 := x } | 1 => { p with ch1 := x } | 2 => { p with ch2 := x }

/-- `eff(c)`: the reload, 65536 when it is 0 (R570, R577). -/
def PitChannel.eff (x : PitChannel) : Nat := if x.reload = 0 then 65536 else x.reload.toNat

/-- `freq(c)` = `PIT_CLOCK_HZ / eff(c)` Hz, derived (R570, R576). notes/assumptions/28. -/
def PitChannel.freq (x : PitChannel) : ℚ :=
  match Config.freqDivision with
  | .real => (Config.pitClockHz : ℚ) / x.eff
  | .integer => (Config.pitClockHz / x.eff : Nat)

/-- The period of a channel in seconds (R576). -/
def PitChannel.period (x : PitChannel) : ℚ := (x.eff : ℚ) / Config.pitClockHz

/-- n / d as a whole number, rounded down or up as the implementation does (R576). notes/assumptions/8. -/
def roundTicks (n d : Nat) : Nat :=
  n / d + if n % d ≠ 0 ∧ Config.roundsUp n d = true then 1 else 0

/-- The period of a channel in host ticks: `hostFreq * eff / 1193182` (R576, R580). notes/assumptions/8. -/
def PitChannel.hostTicks (x : PitChannel) : Nat := roundTicks (Config.hostFreq * x.eff) Config.pitClockHz

/-- The access mode of a two-bit code (R570). -/
def Access.ofBits (n : BitVec 2) : Access :=
  match n.toNat with
  | 0 => .latch | 1 => .lo | 2 => .hi | _ => .toggle

/-- A channel after its access mode is set; toggle mode resets the flip-flop (R573). -/
def PitChannel.withAccess (x : PitChannel) (a : Access) : PitChannel :=
  { x with access := a, flipHigh := if a = .toggle then false else x.flipHigh }

/-- A write to the mode port; channel 3 is dropped (R573). -/
def Pit.writeMode (p : Pit) (v : Byte) : Pit :=
  let a := Access.ofBits (v.extractLsb' 4 2)
  match (v.extractLsb' 6 2).toNat with
  | 0 => { p with ch0 := p.ch0.withAccess a }
  | 1 => { p with ch1 := p.ch1.withAccess a }
  | 2 => { p with ch2 := p.ch2.withAccess a }
  | _ => p

/-- A channel after a write to its data port (R574). -/
def PitChannel.writeData (x : PitChannel) (v : Byte) : PitChannel :=
  let low := wordOf (high8 x.reload) v
  let high := wordOf v (low8 x.reload)
  match x.access with
  | .latch => x
  | .lo => { x with reload := low, active := true }
  | .hi => { x with reload := high, active := true }
  | .toggle => { x with reload := if x.flipHigh then high else low, flipHigh := !x.flipHigh, active := true }

/-- The byte of a count that a data-port read returns (R575). -/
def PitChannel.readByte (x : PitChannel) (count : Word) : Byte :=
  match x.access with
  | .latch => low8 count
  | .lo => low8 count
  | .hi => high8 count
  | .toggle => if x.flipHigh then high8 count else low8 count

/-- A channel after a data-port read: toggle mode turns the flip-flop over (R575). -/
def PitChannel.afterRead (x : PitChannel) : PitChannel :=
  match x.access with
  | .toggle => { x with flipHigh := !x.flipHigh }
  | .latch => x
  | .lo => x
  | .hi => x

/-- The output of the block to the speaker: `freq[2]` (R578). -/
def State.speakerFreq (s : State) : ℚ := s.pit.ch2.freq

end Sys2Proof.Machine
end

