-- ==== Sys2Proof/Machine/Ports.lean ====
section
/-! DEFINITION. The port bus (spec/61_devices.md R610 to R616, spec/20_memory.md R73): byte accesses through the table, word
accesses as two byte accesses. -/

namespace Sys2Proof.Machine

/-- A read through a handler: the byte and the state after it (R558, R559, R575, R597). notes/assumptions/2, 3, 16, 17. -/
def State.handlerIn (s : State) : Handler → Byte × State
  | .dmaAddress _ => (Config.freeByte s.draws, s.drew 1)
  | .dmaCount _ => (Config.freeByte s.draws, s.drew 1)
  | .dmaMask => (Config.freeByte s.draws, s.drew 1)
  | .dmaMode => (Config.freeByte s.draws, s.drew 1)
  | .dmaClearFlipFlop => (Config.freeByte s.draws, s.drew 1)
  | .dmaIgnored => (Config.freeByte s.draws, s.drew 1)
  | .dmaPage _ => (Config.freeByte s.draws, s.drew 1)
  | .dmaPageIgnored => (Config.freeByte s.draws, s.drew 1)
  | .picCommand => (s.pic.readCommand, s)
  | .picData => (s.pic.readData, s)
  | .pitData c =>
    let x := s.pit.get c
    (x.readByte (Config.freeWord s.draws), (s.setPit (s.pit.set c x.afterRead)).drew 1)
  | .pitMode => (0xFF, s)
  | .platform => (Config.freeByte s.draws, s.drew 1)

/-- A write through a handler (R555, R556, R573, R574, R592 to R595). notes/assumptions/16. -/
def State.handlerOut (s : State) (port : Word) (v : Byte) : Handler → State
  | .dmaAddress c => s.setDma (s.dma.writeAddress c v)
  | .dmaCount c => s.setDma (s.dma.writeCount c v)
  | .dmaMask => s.setDma (s.dma.writeMask v)
  | .dmaMode => s.setDma (s.dma.writeMode v)
  | .dmaClearFlipFlop => s.setDma s.dma.clearFlipFlop
  | .dmaIgnored => s
  | .dmaPage c => s.setDma (s.dma.writePage c v)
  | .dmaPageIgnored => s
  | .picCommand => s.setPic (s.pic.writeCommand v)
  | .picData => s.setPic (s.pic.writeData v)
  | .pitData c => s.setPit (s.pit.set c ((s.pit.get c).writeData v))
  | .pitMode => s.setPit (s.pit.writeMode v)
  | .platform => s.emit (.portWrite port v)

/-- `inByte(port)`: an unhandled read returns 0xFF (R611). -/
def State.inByte (s : State) (port : Word) : Byte × State :=
  match lookupPort s.ports port with
  | some h => s.handlerIn h
  | none => (0xFF, s)

/-- `outByte(port, v)`: an unhandled write is dropped (R612). -/
def State.outByte (s : State) (port : Word) (v : Byte) : State :=
  match lookupPort s.ports port with
  | some h => s.handlerOut port v h
  | none => s

/-- `PortIn(port, 16)`: the lower port first (R73, R613). -/
def State.inWord (s : State) (port : Word) : Word × State :=
  let lo := s.inByte port
  let hi := lo.2.inByte (port + 1)
  (wordOf hi.1 lo.1, hi.2)

/-- `PortOut(port, 16, v)`: the low byte to the lower port first (R73, R613). -/
def State.outWord (s : State) (port v : Word) : State :=
  (s.outByte port (low8 v)).outByte (port + 1) (high8 v)

end Sys2Proof.Machine
end

