-- ==== Sys2Proof/Machine/Boundary.lean ====
section
/-! DEFINITION. What the outside world does to the block: the external events between two slots (spec/00_scope.md R9,
spec/61_devices.md R553, R560, R596, R620 to R622), the boot-time operations (spec/70_reset_and_hazards.md R634,
spec/61_devices.md R616) and a later `reset()` (spec/70_reset_and_hazards.md R632). -/

namespace Sys2Proof.Machine

/-! ### Events -/

/-- `doirq(line)` (R553). -/
def State.doirq (s : State) (line : Nat) : State := s.setPic (s.pic.doirq line)

/-- The byte `DmaRead(channel)` returns (R596). -/
def State.dmaByte (s : State) (channel : Nat) : Byte :=
  if h : channel < 4 then
    match (s.dma.get ⟨channel, h⟩).readAddr with
    | some a => s.readByte a
    | none => Config.dmaSentinel
  else Config.dmaSentinel

/-- The channel state `DmaRead(channel)` leaves; a channel above 3 is absorbed (R596). -/
def State.dmaAdvance (s : State) (channel : Nat) : State :=
  if h : channel < 4 then s.setDma (s.dma.set ⟨channel, h⟩ (s.dma.get ⟨channel, h⟩).afterRead) else s

/-- `DmaRead(channel)` as an event: the byte goes to the consumer (R9, R596). notes/assumptions/9. -/
def State.dmaRead (s : State) (channel : Nat) : State := (s.dmaAdvance channel).emit (.dmaByte channel (s.dmaByte channel))

/-- The counters of the active channels after host time has passed: free values (R621, U14). notes/assumptions/17. -/
def Pit.counted (p : Pit) (d : Nat) : Pit :=
  let f (x : PitChannel) (k : Nat) : PitChannel := if x.active then { x with counter := Config.freeWord (d + k) } else x
  ⟨f p.ch0 0, f p.ch1 1, f p.ch2 2⟩

/-- The PIT's service: `doirq(0)` when channel 0 is active (R580, R621). -/
def State.servicePit (s : State) : State := if s.pit.ch0.active then s.doirq 0 else s

/-- `tick()` when the host clock reads `now`: the PIT is serviced once when its interval has elapsed, and its marker advances
by one interval (R621, R622). notes/assumptions/8. -/
def State.tick (s : State) (now : Nat) : State :=
  let t := max s.sched.hostTick now
  let iv := s.pit.ch0.hostTicks
  let counted := (s.setPit (s.pit.counted s.draws)).drew 3
  if s.sched.lastServiced + iv ≤ t then
    (counted.setSched { hostTick := t, lastServiced := s.sched.lastServiced + iv, interval := iv }).servicePit
  else counted.setSched { hostTick := t, lastServiced := s.sched.lastServiced, interval := iv }

/-- Is the instruction counter on the cadence (R500, step 1a)? notes/assumptions/27. -/
def State.onCadence (s : State) : Bool := decide (s.instrCount % Config.tickCadence = 0)

/-- Step 1a of the slot when the host clock reads `now` (R500, R501). -/
def State.poll (s : State) (now : Nat) : State := if s.onCadence then s.tick now else s

/-- One external event. -/
def State.applyEvent (s : State) : Event → State
  | .doirq line => s.doirq line
  | .dmaRead channel => s.dmaRead channel
  | .catchUp => s.setPic s.pic.catchUp
  | .tick now => s.tick now
  | .poll now => s.poll now
  | .stop => s.setRunning false

/-- The events of one slot boundary, in their order. -/
def State.applyEvents (s : State) : List Event → State
  | [] => s
  | e :: rest => (s.applyEvent e).applyEvents rest

/-- The events of the coming slot boundary are taken from the input stream (R501, P5). notes/assumptions/7. -/
def State.boundary (s : State) : State :=
  match s.events with
  | [] => s
  | now :: later => (s.setEvents later).applyEvents now

/-! ### Host operations outside a run -/

/-- `TimingScheduler.init()` when the host clock reads `now` (R620). -/
def State.schedulerInit (s : State) (now : Nat) : State :=
  s.setSched { hostTick := now, lastServiced := now, interval := s.pit.ch0.hostTicks }

/-- Store the bytes of an image at consecutive addresses from a, read-only or not, whatever the map says (R634). -/
def State.loadImage (s : State) (a : Addr) (readOnly : Bool) : List Byte → State
  | [] => s
  | b :: rest =>
    let t := s.setMem (s.mem.write a.toNat b)
    State.loadImage (if readOnly then t.setRo (t.ro.add a.toNat) else t) (a + 1) readOnly rest

/-- What one call of `loadImage` is given (R634). -/
structure Image where
  addr : Addr
  readOnly : Bool
  bytes : List Byte
  deriving DecidableEq, Repr

/-- The images loaded in their order. -/
def State.loadImages (s : State) : List Image → State
  | [] => s
  | x :: rest => State.loadImages (s.loadImage x.addr x.readOnly x.bytes) rest

/-- The start of the machine: the images are loaded over memory and registers that the spec leaves unspecified, and without
an image the start is refused (R634, U9). notes/assumptions/29. -/
def State.boot (regs : Regs) (mem : Memory) (images : List Image) : Host.Outcome State Fault Refusal :=
  if images.all fun x => x.bytes.isEmpty then .refused .noImage
  else .next ((State.powerOn regs mem []).loadImages images)

/-- `setPortRedirector(lo, hi, handler)` (R616). -/
def State.setPortRedirector (s : State) (lo hi : Word) (h : Option Handler) : State :=
  s.setPorts (⟨lo.toNat, hi.toNat, h⟩ :: s.ports)

/-- General registers after a later `reset()`: unspecified (U9). notes/assumptions/14. -/
def freeRegs (d : Nat) : Regs :=
  { ax := Config.freeWord d, cx := Config.freeWord (d + 1), dx := Config.freeWord (d + 2), bx := Config.freeWord (d + 3),
    sp := Config.freeWord (d + 4), bp := Config.freeWord (d + 5), si := Config.freeWord (d + 6),
    di := Config.freeWord (d + 7) }

/-- A `reset()` after power-on: CPU state only (R632). notes/assumptions/14. -/
def State.hostReset (s : State) : State :=
  ((((((s.setRegs (freeRegs s.draws)).setSegs .reset).setIp 0).setFlags .clear).setHalt false).setTrapLatch false).drew 8

end Sys2Proof.Machine
end

