-- ==== Sys2Proof/Machine/Operands.lean ====
section
/-! DEFINITION. Operand forms: effective addresses, segment selection, register or memory operands, the operand forms of the
instructions (spec/30_encoding.md R107 to R113, spec/40_alu.md R150). -/

namespace Sys2Proof.Machine

/-! ### Effective addresses -/

/-- The formula of an rm value (R108). -/
def State.eaFormula (s : State) : EaBase → Word
  | .bxSi => s.reg .bx + s.reg .si
  | .bxDi => s.reg .bx + s.reg .di
  | .bpSi => s.reg .bp + s.reg .si
  | .bpDi => s.reg .bp + s.reg .di
  | .si => s.reg .si
  | .di => s.reg .di
  | .bp => s.reg .bp
  | .bx => s.reg .bx

/-- The displacement as it enters the sum (R108). -/
def dispWord : Disp → Word
  | .no => 0
  | .d8 d => sext16 d
  | .d16 d => d

/-- `EA`: the sum modulo 2^16 (R108). -/
def State.ea (s : State) : MemOp → Word
  | .based b d => s.eaFormula b + dispWord d
  | .direct a => a

/-- The default segment of a memory operand (R108). -/
def defaultSeg : MemOp → SReg
  | .based .bpSi _ | .based .bpDi _ | .based .bp _ => .ss
  | .based .bxSi _ | .based .bxDi _ | .based .si _ | .based .di _ | .based .bx _ => .ds
  | .direct _ => .ds

/-- The segment register the override names, or the default (R113). -/
def State.overrideOr (s : State) (d : SReg) : SReg := s.segOverride.getD d

/-- The segment of a memory operand (R113). -/
def State.memSeg (s : State) (m : MemOp) : Word := s.seg (s.overrideOr (defaultSeg m))

/-- The default data segment DS or its override: moffs forms, XLAT, string sources (R113, R300). -/
def State.dataSeg (s : State) : Word := s.seg (s.overrideOr .ds)

/-! ### Register or memory operands -/

/-- Where an operand is, settled once from the register values the instruction starts with (R109). -/
inductive Loc (ρ : Type) where
  | reg (r : ρ)
  | mem (sg off : Word)
  deriving DecidableEq, Repr

/-- The place of an r/m operand (R109, R112). -/
def State.loc {ρ : Type} (s : State) : RM ρ → Loc ρ
  | .reg r => .reg r
  | .mem m => .mem (s.memSeg m) (s.ea m)

/-- `ReadRM(8)` (R112). -/
def State.read8 (s : State) : Loc Reg8 → Byte
  | .reg r => s.reg8 r
  | .mem sg off => s.readSeg8 sg off

/-- `WriteRM(8, v)` (R112). -/
def State.write8 (s : State) (l : Loc Reg8) (v : Byte) : State :=
  match l with
  | .reg r => s.setReg8 r v
  | .mem sg off => s.writeSeg8 sg off v

/-- `ReadRM(16)` (R112). -/
def State.read16 (s : State) : Loc Reg16 → Word
  | .reg r => s.reg r
  | .mem sg off => s.readSeg16 sg off

/-- `WriteRM(16, v)` (R112). -/
def State.write16 (s : State) (l : Loc Reg16) (v : Word) : State :=
  match l with
  | .reg r => s.setReg r v
  | .mem sg off => s.writeSeg16 sg off v

/-- The two words of a far pointer or a pair of bounds: at EA and EA + 2 in the operand's segment (R218, R255, R463). -/
def State.farLow (s : State) (m : MemOp) : Word := s.readSeg16 (s.memSeg m) (s.ea m)

/-- The word at EA + 2. -/
def State.farHigh (s : State) (m : MemOp) : Word := s.readSeg16 (s.memSeg m) (s.ea m + 2)

/-! ### Operand forms -/

/-- The operands of a two-operand instruction after reading: the destination's place and the values a and b (R150). -/
inductive Operands where
  | b (dst : Loc Reg8) (x y : Byte)
  | w (dst : Loc Reg16) (x y : Word)
  deriving DecidableEq, Repr

/-- One operand after reading: its place and its value. -/
inductive Operand where
  | b (dst : Loc Reg8) (x : Byte)
  | w (dst : Loc Reg16) (x : Word)
  deriving DecidableEq, Repr

end Sys2Proof.Machine

namespace Sys2Proof

open Machine

/-- r/m is the destination, the register the source. -/
def RmReg.toRm (s : State) : RmReg → Operands
  | .b rm r => .b (s.loc rm) (s.read8 (s.loc rm)) (s.reg8 r)
  | .w rm r => .w (s.loc rm) (s.read16 (s.loc rm)) (s.reg r)

/-- The register is the destination, r/m the source. -/
def RmReg.toReg (s : State) : RmReg → Operands
  | .b rm r => .b (.reg r) (s.reg8 r) (s.read8 (s.loc rm))
  | .w rm r => .w (.reg r) (s.reg r) (s.read16 (s.loc rm))

/-- The accumulator is the destination, the immediate the source. -/
def AccImm.operands (s : State) : AccImm → Operands
  | .b i => .b (.reg .al) (s.reg8 .al) i
  | .w i => .w (.reg .ax) (s.reg .ax) i

/-- r/m is the destination, the immediate the source. -/
def RmImm.operands (s : State) : RmImm → Operands
  | .b rm i => .b (s.loc rm) (s.read8 (s.loc rm)) i
  | .w rm i => .w (s.loc rm) (s.read16 (s.loc rm)) i

/-- The operands of ADD, OR, ADC, SBB, AND, SUB, XOR, CMP (R150). -/
def AluForm.operands (s : State) : AluForm → Operands
  | .rmReg x => RmReg.toRm s x
  | .regRm x => RmReg.toReg s x
  | .accImm x => AccImm.operands s x
  | .rmImm x => RmImm.operands s x
  | .rmImm8s rm i => .w (s.loc rm) (s.read16 (s.loc rm)) (sext16 i)

/-- The operands of TEST (R167). -/
def TestForm.operands (s : State) : TestForm → Operands
  | .rmReg x => RmReg.toRm s x
  | .accImm x => AccImm.operands s x
  | .rmImm x => RmImm.operands s x

/-- The operand of a one-operand group. -/
def RmForm.operand (s : State) : RmForm → Operand
  | .b rm => .b (s.loc rm) (s.read8 (s.loc rm))
  | .w rm => .w (s.loc rm) (s.read16 (s.loc rm))

/-- The operand of INC and DEC (R163, R164). -/
def IncForm.operand (s : State) : IncForm → Operand
  | .r16 r => .w (.reg r) (s.reg r)
  | .rm x => RmForm.operand s x

/-- The count of a shift or rotate: `n0 AND SHIFT_COUNT_MASK` (R330). -/
def ShiftCount.value (s : State) (n : ShiftCount) : Nat :=
  let n0 : Byte := match n with
    | .one => 1
    | .cl => s.reg8 .cl
    | .imm i => i
  (n0 &&& Config.shiftCountMask).toNat

end Sys2Proof
end

