-- ==== Sys2Proof/Machine/Alu.lean ====
section
/-! DEFINITION. The arithmetic and logical instructions (spec/40_alu.md R150 to R169). -/

namespace Sys2Proof.Machine

/-! ### Shared operations -/

/-- `res <- Add_w(a, b, c)`; the flags, then the result (R150, R152). -/
def State.addTo (s : State) (x : Operands) (c : Bool) : State :=
  match x with
  | .b dst a b => (s.setFlags (s.flags.afterAdd a b c)).write8 dst (addResult a b c)
  | .w dst a b => (s.setFlags (s.flags.afterAdd a b c)).write16 dst (addResult a b c)

/-- `res <- Sub_w(a, b, c)`; the flags, then the result (R150, R153). -/
def State.subFrom (s : State) (x : Operands) (c : Bool) : State :=
  match x with
  | .b dst a b => (s.setFlags (s.flags.afterSub a b c)).write8 dst (subResult a b c)
  | .w dst a b => (s.setFlags (s.flags.afterSub a b c)).write16 dst (subResult a b c)

/-- `Sub_w(a, b, 0)` with the result discarded (R162). -/
def State.compare (s : State) : Operands → State
  | .b _ a b => s.setFlags (s.flags.afterSub a b false)
  | .w _ a b => s.setFlags (s.flags.afterSub a b false)

/-- The three bitwise operations. -/
inductive LogicOp where
  | and | or | xor
  deriving DecidableEq, Repr

/-- The bitwise result. -/
def LogicOp.result {w : Nat} (op : LogicOp) (a b : BitVec w) : BitVec w :=
  match op with
  | .and => a &&& b
  | .or => a ||| b
  | .xor => a ^^^ b

/-- The flags of `Logic_w(res)` with AF drawn (R154). -/
def State.logicFlags {w : Nat} (s : State) (res : BitVec w) : State :=
  (s.setFlags (s.flags.afterLogic res (s.freeBit 0))).drew 1

/-- `res <- Logic_w(a op b)`; the flags, then the result (R150, R154). -/
def State.logic (s : State) (op : LogicOp) : Operands → State
  | .b dst a b => (s.logicFlags (op.result a b)).write8 dst (op.result a b)
  | .w dst a b => (s.logicFlags (op.result a b)).write16 dst (op.result a b)

/-- `Logic_w(a AND b)` with the result discarded (R167). -/
def State.testBits (s : State) : Operands → State
  | .b _ a b => s.logicFlags (a &&& b)
  | .w _ a b => s.logicFlags (a &&& b)

/-! ### Two operands -/

/-- ADD: R155. -/
def execAdd (f : AluForm) (s : State) : Host.Outcome State Fault Refusal :=
  .next (s.addTo (f.operands s) false)

/-- OR: R156. -/
def execOr (f : AluForm) (s : State) : Host.Outcome State Fault Refusal :=
  .next (s.logic .or (f.operands s))

/-- ADC: R157. -/
def execAdc (f : AluForm) (s : State) : Host.Outcome State Fault Refusal :=
  .next (s.addTo (f.operands s) s.flags.cf)

/-- SBB: R158. -/
def execSbb (f : AluForm) (s : State) : Host.Outcome State Fault Refusal :=
  .next (s.subFrom (f.operands s) s.flags.cf)

/-- AND: R159. -/
def execAnd (f : AluForm) (s : State) : Host.Outcome State Fault Refusal :=
  .next (s.logic .and (f.operands s))

/-- SUB: R160. -/
def execSub (f : AluForm) (s : State) : Host.Outcome State Fault Refusal :=
  .next (s.subFrom (f.operands s) false)

/-- XOR: R161. -/
def execXor (f : AluForm) (s : State) : Host.Outcome State Fault Refusal :=
  .next (s.logic .xor (f.operands s))

/-- CMP: R162. -/
def execCmp (f : AluForm) (s : State) : Host.Outcome State Fault Refusal :=
  .next (s.compare (f.operands s))

/-! ### One operand -/

/-- INC: R163. -/
def execInc (f : IncForm) (s : State) : Host.Outcome State Fault Refusal :=
  match f.operand s with
  | .b dst a => .next ((s.setFlags (s.flags.afterInc a)).write8 dst (addResult a 1 false))
  | .w dst a => .next ((s.setFlags (s.flags.afterInc a)).write16 dst (addResult a 1 false))

/-- DEC: R164. -/
def execDec (f : IncForm) (s : State) : Host.Outcome State Fault Refusal :=
  match f.operand s with
  | .b dst a => .next ((s.setFlags (s.flags.afterDec a)).write8 dst (subResult a 1 false))
  | .w dst a => .next ((s.setFlags (s.flags.afterDec a)).write16 dst (subResult a 1 false))

/-- NEG: R165. -/
def execNeg (x : RmForm) (s : State) : Host.Outcome State Fault Refusal :=
  match x.operand s with
  | .b dst a => .next (s.subFrom (.b dst 0 a) false)
  | .w dst a => .next (s.subFrom (.w dst 0 a) false)

/-- NOT: R166. -/
def execNot (x : RmForm) (s : State) : Host.Outcome State Fault Refusal :=
  match x.operand s with
  | .b dst a => .next (s.write8 dst (~~~ a))
  | .w dst a => .next (s.write16 dst (~~~ a))

/-- TEST: R167. -/
def execTest (f : TestForm) (s : State) : Host.Outcome State Fault Refusal :=
  .next (s.testBits (f.operands s))

end Sys2Proof.Machine
end

