-- ==== Sys2Proof/Machine/Bcd.lean ====
section
/-! DEFINITION. The decimal and ASCII adjust instructions (spec/46_bcd.md R380 to R386). -/

namespace Sys2Proof.Machine

/-- Does the low digit need adjusting: `(AL AND 0x0F) > 9 or AF == 1` (R380 to R383)? -/
def lowDigitAdjust (al : Byte) (af : Bool) : Bool := decide (9 < (al &&& 0x0F).toNat) || af

/-- Does the high digit need adjusting: `old_al > 0x99 or old_cf == 1` (R380, R381)? -/
def highDigitAdjust (al : Byte) (cf : Bool) : Bool := decide (0x99 < al.toNat) || cf

/-- AL after DAA (R380). -/
def daaResult (al : Byte) (af cf : Bool) : Byte :=
  let x := if lowDigitAdjust al af then al + 6 else al
  if highDigitAdjust al cf then x + 0x60 else x

/-- AL after DAS (R381). -/
def dasResult (al : Byte) (af cf : Bool) : Byte :=
  let x := if lowDigitAdjust al af then al - 6 else al
  if highDigitAdjust al cf then x - 0x60 else x

/-- CF after DAS (R381). -/
def dasCarry (al : Byte) (af cf : Bool) : Bool :=
  highDigitAdjust al cf || (lowDigitAdjust al af && (cf || decide (al.toNat < 6)))

/-- AL and the flags after DAA or DAS; OF is unspecified (U7). -/
def State.decimalAdjusted (s : State) (al : Byte) (af cf : Bool) : State :=
  ((s.setFlags { s.flags.withSzp al with af := af, cf := cf, ofl := s.freeBit 0 }).drew 1).setReg8 .al al

/-- DAA: R380. -/
def execDaa (s : State) : Host.Outcome State Fault Refusal :=
  let al := s.reg8 .al
  .next (s.decimalAdjusted (daaResult al s.flags.af s.flags.cf) (lowDigitAdjust al s.flags.af)
    (highDigitAdjust al s.flags.cf))

/-- DAS: R381. -/
def execDas (s : State) : Host.Outcome State Fault Refusal :=
  let al := s.reg8 .al
  .next (s.decimalAdjusted (dasResult al s.flags.af s.flags.cf) (lowDigitAdjust al s.flags.af)
    (dasCarry al s.flags.af s.flags.cf))

/-- AX and the flags after AAA or AAS: AF = CF = adjusted; OF, SF, ZF, PF are unspecified (R382, R383, U5). -/
def State.asciiAdjusted (s : State) (ah al : Byte) (adjusted : Bool) : State :=
  ((s.setFlags { s.flags with af := adjusted, cf := adjusted, ofl := s.freeBit 0, sf := s.freeBit 1, zf := s.freeBit 2,
                              pf := s.freeBit 3 }).drew 4).setReg .ax (wordOf ah (al &&& 0x0F))

/-- AAA: R382; AL and AH are adjusted separately. -/
def execAaa (s : State) : Host.Outcome State Fault Refusal :=
  let al := s.reg8 .al
  if lowDigitAdjust al s.flags.af then .next (s.asciiAdjusted (s.reg8 .ah + 1) (al + 6) true)
  else .next (s.asciiAdjusted (s.reg8 .ah) al false)

/-- AAS: R383. -/
def execAas (s : State) : Host.Outcome State Fault Refusal :=
  let al := s.reg8 .al
  if lowDigitAdjust al s.flags.af then .next (s.asciiAdjusted (s.reg8 .ah - 1) (al - 6) true)
  else .next (s.asciiAdjusted (s.reg8 .ah) al false)

/-- AX and the flags after AAM or AAD: SF, ZF, PF from AL; OF, AF, CF are unspecified (R384, R385, U6). -/
def State.baseAdjusted (s : State) (ah al : Byte) : State :=
  ((s.setFlags { s.flags.withSzp al with ofl := s.freeBit 0, af := s.freeBit 1, cf := s.freeBit 2 }).drew 3).setReg .ax
    (wordOf ah al)

/-- AAM: R384; base 0 raises interrupt 0 before any write. -/
def execAam (base : Byte) (s : State) : Host.Outcome State Fault Refusal :=
  if base = 0 then .next (s.intCall 0)
  else .next (s.baseAdjusted (s.reg8 .al / base) (s.reg8 .al % base))

/-- AAD: R385. -/
def execAad (base : Byte) (s : State) : Host.Outcome State Fault Refusal :=
  .next (s.baseAdjusted 0 (s.reg8 .al + s.reg8 .ah * base))

end Sys2Proof.Machine
end

