-- ==== Sys2Proof/Machine/Control.lean ====
section
/-! DEFINITION. The control transfer instructions (spec/42_control_transfer.md R250 to R268). -/

namespace Sys2Proof.Machine

/-- `IP <- trunc_16(IP + d)` when the condition holds (R250, R268). -/
def State.jumpIf (s : State) (c : Bool) (d : Word) : State := if c then s.setIp (s.ip + d) else s

/-- CS:IP <- sg:off (R253). -/
def State.jumpFar (s : State) (sg off : Word) : State := (s.setSeg .cs sg).setIp off

/-- Push CS, then IP, and go to sg:off (R257). -/
def State.callFar (s : State) (sg off : Word) : State := ((s.push16 (s.seg .cs)).push16 s.ip).jumpFar sg off

/-- Push IP and go to off (R256). -/
def State.callNear (s : State) (off : Word) : State := (s.push16 s.ip).setIp off

/-- `IP <- Pop16()` (R260). -/
def State.returnNear (s : State) : State := s.popped.setIp s.top

/-- `IP <- Pop16(); CS <- Pop16()` (R262). -/
def State.returnFar (s : State) : State := (s.popped.popped.setIp s.top).setSeg .cs s.popped.top

/-- `SP <- trunc_16(SP + n)` (R261). -/
def State.release (s : State) (n : Word) : State := s.setReg .sp (s.reg .sp + n)

/-- `CX <- trunc_16(CX - 1)` (R264, R301). -/
def State.countDown (s : State) : State := s.setReg .cx (s.reg .cx - 1)

/-! ### Conditional jumps (R250) -/

/-- JO: R250, condition 0. -/
def execJo (rel : Byte) (s : State) : Host.Outcome State Fault Refusal :=
  .next (s.jumpIf s.flags.ofl (sext16 rel))

/-- JNO: R250, condition 1. -/
def execJno (rel : Byte) (s : State) : Host.Outcome State Fault Refusal :=
  .next (s.jumpIf (!s.flags.ofl) (sext16 rel))

/-- JB: R250, condition 2. -/
def execJb (rel : Byte) (s : State) : Host.Outcome State Fault Refusal :=
  .next (s.jumpIf s.flags.cf (sext16 rel))

/-- JNB: R250, condition 3. -/
def execJnb (rel : Byte) (s : State) : Host.Outcome State Fault Refusal :=
  .next (s.jumpIf (!s.flags.cf) (sext16 rel))

/-- JZ: R250, condition 4. -/
def execJz (rel : Byte) (s : State) : Host.Outcome State Fault Refusal :=
  .next (s.jumpIf s.flags.zf (sext16 rel))

/-- JNZ: R250, condition 5. -/
def execJnz (rel : Byte) (s : State) : Host.Outcome State Fault Refusal :=
  .next (s.jumpIf (!s.flags.zf) (sext16 rel))

/-- JBE: R250, condition 6. -/
def execJbe (rel : Byte) (s : State) : Host.Outcome State Fault Refusal :=
  .next (s.jumpIf (s.flags.cf || s.flags.zf) (sext16 rel))

/-- JA: R250, condition 7. -/
def execJa (rel : Byte) (s : State) : Host.Outcome State Fault Refusal :=
  .next (s.jumpIf (!s.flags.cf && !s.flags.zf) (sext16 rel))

/-- JS: R250, condition 8. -/
def execJs (rel : Byte) (s : State) : Host.Outcome State Fault Refusal :=
  .next (s.jumpIf s.flags.sf (sext16 rel))

/-- JNS: R250, condition 9. -/
def execJns (rel : Byte) (s : State) : Host.Outcome State Fault Refusal :=
  .next (s.jumpIf (!s.flags.sf) (sext16 rel))

/-- JP: R250, condition 10. -/
def execJp (rel : Byte) (s : State) : Host.Outcome State Fault Refusal :=
  .next (s.jumpIf s.flags.pf (sext16 rel))

/-- JNP: R250, condition 11. -/
def execJnp (rel : Byte) (s : State) : Host.Outcome State Fault Refusal :=
  .next (s.jumpIf (!s.flags.pf) (sext16 rel))

/-- JL: R250, condition 12. -/
def execJl (rel : Byte) (s : State) : Host.Outcome State Fault Refusal :=
  .next (s.jumpIf (s.flags.sf != s.flags.ofl) (sext16 rel))

/-- JGE: R250, condition 13. -/
def execJge (rel : Byte) (s : State) : Host.Outcome State Fault Refusal :=
  .next (s.jumpIf (s.flags.sf == s.flags.ofl) (sext16 rel))

/-- JLE: R250, condition 14. -/
def execJle (rel : Byte) (s : State) : Host.Outcome State Fault Refusal :=
  .next (s.jumpIf (s.flags.zf || s.flags.sf != s.flags.ofl) (sext16 rel))

/-- JG: R250, condition 15. -/
def execJg (rel : Byte) (s : State) : Host.Outcome State Fault Refusal :=
  .next (s.jumpIf (!s.flags.zf && s.flags.sf == s.flags.ofl) (sext16 rel))

/-! ### Jumps -/

/-- JMP rel8: R251. -/
def execJmpShort (rel : Byte) (s : State) : Host.Outcome State Fault Refusal :=
  .next (s.setIp (s.ip + sext16 rel))

/-- JMP rel16: R252. -/
def execJmpNear (rel : Word) (s : State) : Host.Outcome State Fault Refusal :=
  .next (s.setIp (s.ip + rel))

/-- JMP ptr16:16: R253. -/
def execJmpFar (off sg : Word) (s : State) : Host.Outcome State Fault Refusal :=
  .next (s.jumpFar sg off)

/-- JMP r/m16: R254. -/
def execJmpRm (rm : RM16) (s : State) : Host.Outcome State Fault Refusal :=
  .next (s.setIp (s.read16 (s.loc rm)))

/-- JMP m16:16: R255. -/
def execJmpMem (m : MemOp) (s : State) : Host.Outcome State Fault Refusal :=
  .next (s.jumpFar (s.farHigh m) (s.farLow m))

/-! ### Calls and returns -/

/-- CALL rel16: R256. -/
def execCallNear (rel : Word) (s : State) : Host.Outcome State Fault Refusal :=
  .next (s.callNear (s.ip + rel))

/-- CALL ptr16:16: R257. -/
def execCallFar (off sg : Word) (s : State) : Host.Outcome State Fault Refusal :=
  .next (s.callFar sg off)

/-- CALL r/m16: R258; the target is read before the push. -/
def execCallRm (rm : RM16) (s : State) : Host.Outcome State Fault Refusal :=
  .next (s.callNear (s.read16 (s.loc rm)))

/-- CALL m16:16: R259. -/
def execCallMem (m : MemOp) (s : State) : Host.Outcome State Fault Refusal :=
  .next (s.callFar (s.farHigh m) (s.farLow m))

/-- RET: R260. -/
def execRet (s : State) : Host.Outcome State Fault Refusal :=
  .next s.returnNear

/-- RET imm16: R261. -/
def execRetImm (n : Word) (s : State) : Host.Outcome State Fault Refusal :=
  .next (s.returnNear.release n)

/-- RETF: R262. -/
def execRetf (s : State) : Host.Outcome State Fault Refusal :=
  .next s.returnFar

/-- RETF imm16: R263. -/
def execRetfImm (n : Word) (s : State) : Host.Outcome State Fault Refusal :=
  .next (s.returnFar.release n)

/-! ### Loops -/

/-- LOOP: R264. -/
def execLoop (rel : Byte) (s : State) : Host.Outcome State Fault Refusal :=
  .next (s.countDown.jumpIf (s.countDown.reg .cx != 0) (sext16 rel))

/-- LOOPZ: R265. -/
def execLoopz (rel : Byte) (s : State) : Host.Outcome State Fault Refusal :=
  .next (s.countDown.jumpIf (s.countDown.reg .cx != 0 && s.flags.zf) (sext16 rel))

/-- LOOPNZ: R266. -/
def execLoopnz (rel : Byte) (s : State) : Host.Outcome State Fault Refusal :=
  .next (s.countDown.jumpIf (s.countDown.reg .cx != 0 && !s.flags.zf) (sext16 rel))

/-- JCXZ: R267. -/
def execJcxz (rel : Byte) (s : State) : Host.Outcome State Fault Refusal :=
  .next (s.jumpIf (s.reg .cx == 0) (sext16 rel))

end Sys2Proof.Machine
end

