-- ==== Sys2Proof/Machine/Ext186.lean ====
section
/-! DEFINITION. The 80186/V20 additions (spec/49_ext186.md R460 to R470); the immediate multiplies are in MulDiv.lean, the immediate
shifts in Shift.lean. -/

namespace Sys2Proof.Machine

/-- PUSHA: R461; the SP pushed is the one from before the instruction. -/
def execPusha (s : State) : Host.Outcome State Fault Refusal :=
  .next ((((((((s.push16 (s.reg .ax)).push16 (s.reg .cx)).push16 (s.reg .dx)).push16 (s.reg .bx)).push16
    (s.reg .sp)).push16 (s.reg .bp)).push16 (s.reg .si)).push16 (s.reg .di))

/-- `r <- Pop16()`. -/
def State.popInto (s : State) (r : Reg16) : State := s.popped.setReg r s.top

/-- POPA: R462; the stored SP is skipped. -/
def execPopa (s : State) : Host.Outcome State Fault Refusal :=
  .next (((((((s.popInto .di).popInto .si).popInto .bp).popped.popInto .bx).popInto .dx).popInto .cx).popInto .ax)

/-- BOUND: R463. -/
def execBound (r : Reg16) (m : MemOp) (s : State) : Host.Outcome State Fault Refusal :=
  if (s.reg r).toInt < (s.farLow m).toInt ∨ (s.farHigh m).toInt < (s.reg r).toInt then .next (s.intCall 5)
  else .next s

/-- PUSH imm16: R464. -/
def execPushImm16 (i : Word) (s : State) : Host.Outcome State Fault Refusal :=
  .next (s.push16 i)

/-- PUSH imm8s: R465. -/
def execPushImm8 (i : Byte) (s : State) : Host.Outcome State Fault Refusal :=
  .next (s.push16 (sext16 i))

/-- One turn of ENTER's copy loop: `BP <- trunc_16(BP - 2); Push16(ReadSeg(SS, BP, 16))` (R469). -/
def State.copyFrame (s : State) : State :=
  let t := s.setReg .bp (s.reg .bp - 2)
  t.push16 (t.readSeg16 (t.seg .ss) (t.reg .bp))

/-- n turns of the copy loop. -/
def State.copyFrames (s : State) : Nat → State
  | 0 => s
  | n + 1 => s.copyFrame.copyFrames n

/-- ENTER: R469. -/
def execEnter (size : Word) (level : Byte) (s : State) : Host.Outcome State Fault Refusal :=
  let n := (level &&& 0x1F).toNat
  let t := s.push16 (s.reg .bp)
  let frame := t.reg .sp
  let u := if n = 0 then t else (t.copyFrames (n - 1)).push16 frame
  let v := u.setReg .bp frame
  .next (v.setReg .sp (v.reg .sp - size))

/-- LEAVE: R470. -/
def execLeave (s : State) : Host.Outcome State Fault Refusal :=
  .next ((s.setReg .sp (s.reg .bp)).popInto .bp)

end Sys2Proof.Machine
end

