-- ==== Sys2Proof/Machine/FlagIo.lean ====
section
/-! DEFINITION. The flag instructions and port input and output (spec/47_flags_io.md R400 to R415). -/

namespace Sys2Proof.Machine

/-! ### Single flags -/

/-- CLC: R400. -/
def execClc (s : State) : Host.Outcome State Fault Refusal :=
  .next (s.setFlags { s.flags with cf := false })

/-- STC: R401. -/
def execStc (s : State) : Host.Outcome State Fault Refusal :=
  .next (s.setFlags { s.flags with cf := true })

/-- CMC: R402. -/
def execCmc (s : State) : Host.Outcome State Fault Refusal :=
  .next (s.setFlags { s.flags with cf := !s.flags.cf })

/-- CLD: R403. -/
def execCld (s : State) : Host.Outcome State Fault Refusal :=
  .next (s.setFlags { s.flags with df := false })

/-- STD: R404. -/
def execStd (s : State) : Host.Outcome State Fault Refusal :=
  .next (s.setFlags { s.flags with df := true })

/-- CLI: R405. -/
def execCli (s : State) : Host.Outcome State Fault Refusal :=
  .next (s.setFlags { s.flags with ifl := false })

/-- STI: R406. -/
def execSti (s : State) : Host.Outcome State Fault Refusal :=
  .next (s.setFlags { s.flags with ifl := true })

/-! ### Flag byte and word -/

/-- LAHF: R407. -/
def execLahf (s : State) : Host.Outcome State Fault Refusal :=
  .next (s.setReg8 .ah (low8 s.flags.word))

/-- SAHF: R408. -/
def execSahf (s : State) : Host.Outcome State Fault Refusal :=
  .next (s.setFlags (s.flags.withLowByte (s.reg8 .ah)))

/-- PUSHF: R409. -/
def execPushf (s : State) : Host.Outcome State Fault Refusal :=
  .next (s.push16 s.flags.word)

/-- POPF: R410. -/
def execPopf (s : State) : Host.Outcome State Fault Refusal :=
  .next (s.popped.setFlags (Flags.ofWord s.top))

/-! ### Ports -/

/-- The accumulator of a width read from a port (R411, R412). -/
def State.portIn (s : State) (w : Width) (port : Word) : State :=
  match w with
  | .byte => (s.inByte port).2.setReg8 .al (s.inByte port).1
  | .word => (s.inWord port).2.setReg .ax (s.inWord port).1

/-- The accumulator of a width written to a port (R413, R414). -/
def State.portOut (s : State) (w : Width) (port : Word) : State :=
  match w with
  | .byte => s.outByte port (s.reg8 .al)
  | .word => s.outWord port (s.reg .ax)

/-- IN accumulator, imm8: R411. -/
def execInImm (w : Width) (port : Byte) (s : State) : Host.Outcome State Fault Refusal :=
  .next (s.portIn w (zext16 port))

/-- IN accumulator, DX: R412. -/
def execInDx (w : Width) (s : State) : Host.Outcome State Fault Refusal :=
  .next (s.portIn w (s.reg .dx))

/-- OUT imm8, accumulator: R413. -/
def execOutImm (w : Width) (port : Byte) (s : State) : Host.Outcome State Fault Refusal :=
  .next (s.portOut w (zext16 port))

/-- OUT DX, accumulator: R414. -/
def execOutDx (w : Width) (s : State) : Host.Outcome State Fault Refusal :=
  .next (s.portOut w (s.reg .dx))

end Sys2Proof.Machine
end

