-- ==== Sys2Proof/Machine/Interrupt.lean ====
section
/-! DEFINITION. Software interrupts, IRET, HLT, LOCK, WAIT, ESC and the illegal encodings (spec/48_int_misc.md R430 to R445). -/

namespace Sys2Proof.Machine

/-- INT3: R430. -/
def execInt3 (s : State) : Host.Outcome State Fault Refusal :=
  .next (s.intCall 3)

/-- INT n: R431. -/
def execInt (n : Byte) (s : State) : Host.Outcome State Fault Refusal :=
  .next (s.intCall n)

/-- INTO: R432. -/
def execInto (s : State) : Host.Outcome State Fault Refusal :=
  if s.flags.ofl then .next (s.intCall 4) else .next s

/-- IRET: R433. -/
def execIret (s : State) : Host.Outcome State Fault Refusal :=
  .next s.returnFromInterrupt

/-- HLT: R437. -/
def execHlt (s : State) : Host.Outcome State Fault Refusal :=
  .next (s.setHalt true)

/-- LOCK: R438, an instruction that does nothing. -/
def execLock (s : State) : Host.Outcome State Fault Refusal :=
  .next s

/-- WAIT: R439, never blocks. -/
def execWait (s : State) : Host.Outcome State Fault Refusal :=
  .next s

/-- ESC: R440, no memory operand is read. -/
def execEsc (_sel _reg : BitVec 3) (_rm : RM16) (s : State) : Host.Outcome State Fault Refusal :=
  .next s

/-- What an illegal encoding does under a policy, its bytes being consumed (R445). -/
def State.illegal (s : State) : Config.IllegalPolicy → State
  | .raise6 => s.intCall 6
  | .nop => s

/-- An illegal first byte: R445, the opcode byte alone is consumed (R125). -/
def execIllegalOp (_op : Byte) (s : State) : Host.Outcome State Fault Refusal :=
  .next (s.illegal Config.illegalOpcodePolicy)

/-- An illegal second byte: R445, opcode, ModRM and displacement are consumed (R125). -/
def execIllegalModrm (_op : Byte) (_reg : BitVec 3) (_rm : RM16) (s : State) : Host.Outcome State Fault Refusal :=
  .next (s.illegal Config.illegalOpcodePolicy)

end Sys2Proof.Machine
end

