-- ==== Sys2Proof/Machine/Move.lean ====
section
/-! DEFINITION. The data movement instructions (spec/41_data_movement.md R200 to R223). -/

namespace Sys2Proof.Machine

/-! ### MOV -/

/-- MOV r/m, reg: R200. -/
def execMovRmReg (x : RmReg) (s : State) : Host.Outcome State Fault Refusal :=
  match x with
  | .b rm r => .next (s.write8 (s.loc rm) (s.reg8 r))
  | .w rm r => .next (s.write16 (s.loc rm) (s.reg r))

/-- MOV reg, r/m: R201. -/
def execMovRegRm (x : RmReg) (s : State) : Host.Outcome State Fault Refusal :=
  match x with
  | .b rm r => .next (s.setReg8 r (s.read8 (s.loc rm)))
  | .w rm r => .next (s.setReg r (s.read16 (s.loc rm)))

/-- MOV r/m, imm: R202. -/
def execMovRmImm (x : RmImm) (s : State) : Host.Outcome State Fault Refusal :=
  match x with
  | .b rm i => .next (s.write8 (s.loc rm) i)
  | .w rm i => .next (s.write16 (s.loc rm) i)

/-- MOV reg, imm: R203. -/
def execMovRegImm (x : RegImm) (s : State) : Host.Outcome State Fault Refusal :=
  match x with
  | .b r i => .next (s.setReg8 r i)
  | .w r i => .next (s.setReg r i)

/-- MOV accumulator, moffs: R204. -/
def execMovAccMoffs (w : Width) (off : Word) (s : State) : Host.Outcome State Fault Refusal :=
  match w with
  | .byte => .next (s.setReg8 .al (s.readSeg8 s.dataSeg off))
  | .word => .next (s.setReg .ax (s.readSeg16 s.dataSeg off))

/-- MOV moffs, accumulator: R205. -/
def execMovMoffsAcc (w : Width) (off : Word) (s : State) : Host.Outcome State Fault Refusal :=
  match w with
  | .byte => .next (s.writeSeg8 s.dataSeg off (s.reg8 .al))
  | .word => .next (s.writeSeg16 s.dataSeg off (s.reg .ax))

/-- MOV sreg, r/m16: R206. -/
def execMovSregRm (sr : SReg) (rm : RM16) (s : State) : Host.Outcome State Fault Refusal :=
  .next (s.setSeg sr (s.read16 (s.loc rm)))

/-- MOV r/m16, sreg: R207. -/
def execMovRmSreg (rm : RM16) (sr : SReg) (s : State) : Host.Outcome State Fault Refusal :=
  .next (s.write16 (s.loc rm) (s.seg sr))

/-! ### PUSH and POP -/

/-- PUSH r16: R208; the register is read after SP is decremented. -/
def execPushReg (r : Reg16) (s : State) : Host.Outcome State Fault Refusal :=
  .next (s.grown.writeTop (s.grown.reg r))

/-- PUSH sreg: R209. -/
def execPushSreg (sr : SReg) (s : State) : Host.Outcome State Fault Refusal :=
  .next (s.push16 (s.seg sr))

/-- PUSH r/m16: R210; the operand is read before SP changes. -/
def execPushRm (rm : RM16) (s : State) : Host.Outcome State Fault Refusal :=
  .next (s.push16 (s.read16 (s.loc rm)))

/-- POP r16: R211. -/
def execPopReg (r : Reg16) (s : State) : Host.Outcome State Fault Refusal :=
  .next (s.popped.setReg r s.top)

/-- POP sreg: R212. -/
def execPopSreg (sr : SReg) (s : State) : Host.Outcome State Fault Refusal :=
  .next (s.popped.setSeg sr s.top)

/-- POP r/m16: R213; the place was settled before SP changed (R109). -/
def execPopRm (rm : RM16) (s : State) : Host.Outcome State Fault Refusal :=
  .next (s.popped.write16 (s.loc rm) s.top)

/-! ### XCHG, NOP -/

/-- XCHG reg, r/m: R214. -/
def execXchgRmReg (x : RmReg) (s : State) : Host.Outcome State Fault Refusal :=
  match x with
  | .b rm r => .next ((s.write8 (s.loc rm) (s.reg8 r)).setReg8 r (s.read8 (s.loc rm)))
  | .w rm r => .next ((s.write16 (s.loc rm) (s.reg r)).setReg r (s.read16 (s.loc rm)))

/-- XCHG AX, r16: R215. -/
def execXchgAx (r : Reg16) (s : State) : Host.Outcome State Fault Refusal :=
  .next ((s.setReg .ax (s.reg r)).setReg r (s.reg .ax))

/-- NOP: R216. -/
def execNop (s : State) : Host.Outcome State Fault Refusal :=
  .next s

/-! ### LEA, LDS, LES, XLAT, CBW, CWD -/

/-- LEA: R217. -/
def execLea (r : Reg16) (m : MemOp) (s : State) : Host.Outcome State Fault Refusal :=
  .next (s.setReg r (s.ea m))

/-- LDS: R218. -/
def execLds (r : Reg16) (m : MemOp) (s : State) : Host.Outcome State Fault Refusal :=
  .next ((s.setReg r (s.farLow m)).setSeg .ds (s.farHigh m))

/-- LES: R219. -/
def execLes (r : Reg16) (m : MemOp) (s : State) : Host.Outcome State Fault Refusal :=
  .next ((s.setReg r (s.farLow m)).setSeg .es (s.farHigh m))

/-- XLAT: R220. -/
def execXlat (s : State) : Host.Outcome State Fault Refusal :=
  .next (s.setReg8 .al (s.readSeg8 s.dataSeg (s.reg .bx + zext16 (s.reg8 .al))))

/-- CBW: R221. -/
def execCbw (s : State) : Host.Outcome State Fault Refusal :=
  .next (s.setReg .ax (sext16 (s.reg8 .al)))

/-- CWD: R222. -/
def execCwd (s : State) : Host.Outcome State Fault Refusal :=
  .next (s.setReg .dx (if (s.reg .ax).msb then 0xFFFF else 0))

end Sys2Proof.Machine
end

