-- ==== Sys2Proof/Machine/MulDiv.lean ====
section
/-! DEFINITION. The multiply and divide instructions (spec/45_muldiv.md R360 to R365, spec/49_ext186.md R466, R467). -/

namespace Sys2Proof.Machine

/-- The flags a multiply leaves: CF = OF = c, SF, ZF, AF, PF unspecified (R360, R361, U2). -/
def State.mulFlags (s : State) (c : Bool) : State :=
  (s.setFlags { s.flags with cf := c, ofl := c, sf := s.freeBit 0, zf := s.freeBit 1, af := s.freeBit 2,
                             pf := s.freeBit 3 }).drew 4

/-- The flags a completed divide leaves: all six unspecified (R362, U3). -/
def State.divFlags (s : State) : State :=
  (s.setFlags { s.flags with cf := s.freeBit 0, ofl := s.freeBit 1, sf := s.freeBit 2, zf := s.freeBit 3,
                             af := s.freeBit 4, pf := s.freeBit 5 }).drew 6

/-- DX:AX as an unsigned number (R362). -/
def State.dxax (s : State) : BitVec 32 := s.reg .dx ++ s.reg .ax

/-- The divide error: nothing written, `IntCall(0)` (R364). -/
def State.divideError (s : State) : State := s.intCall 0

/-- AX <- quotient, remainder of an 8-bit divide: AL and AH (R362, R363). -/
def State.setDiv8 (s : State) (q r : Byte) : State := s.divFlags.setReg .ax (wordOf r q)

/-- AX, DX <- quotient, remainder of a 16-bit divide (R362, R363). -/
def State.setDiv16 (s : State) (q r : Word) : State := (s.divFlags.setReg .ax q).setReg .dx r

/-- `QMIN_w` (R363). -/
def minQuotient (w : Nat) : Int := if Config.idivNegMinFaults then -(2 ^ (w - 1) : Int) + 1 else -(2 ^ (w - 1) : Int)

/-- Does a signed quotient not fit in w bits (R363)? -/
def quotientOverflows (w : Nat) (q : Int) : Bool := decide ((2 ^ (w - 1) : Int) - 1 < q) || decide (q < minQuotient w)

/-- MUL: R360. -/
def execMul (x : RmForm) (s : State) : Host.Outcome State Fault Refusal :=
  match x.operand s with
  | .b _ v =>
    let p : Nat := (s.reg8 .al).toNat * v.toNat
    .next ((s.mulFlags (decide (256 ≤ p))).setReg .ax (BitVec.ofNat 16 p))
  | .w _ v =>
    let p : Nat := (s.reg .ax).toNat * v.toNat
    .next (((s.mulFlags (decide (65536 ≤ p))).setReg .dx (BitVec.ofNat 16 (p / 65536))).setReg .ax (BitVec.ofNat 16 p))

/-- IMUL r/m: R361. -/
def execImul (x : RmForm) (s : State) : Host.Outcome State Fault Refusal :=
  match x.operand s with
  | .b _ v =>
    let p : BitVec 16 := BitVec.ofInt 16 ((s.reg8 .al).toInt * v.toInt)
    .next ((s.mulFlags (p != sext16 (low8 p))).setReg .ax p)
  | .w _ v =>
    let p : BitVec 32 := BitVec.ofInt 32 ((s.reg .ax).toInt * v.toInt)
    let lo : Word := p.extractLsb' 0 16
    .next (((s.mulFlags (p != lo.signExtend 32)).setReg .dx (p.extractLsb' 16 16)).setReg .ax lo)

/-- The three-operand multiply: the product truncated to 16 bits, CF = OF = it does not fit (R466). -/
def State.mulInto (s : State) (r : Reg16) (a b : Word) : State :=
  let p : Int := a.toInt * b.toInt
  (s.mulFlags (decide (p ≠ (BitVec.ofInt 16 p).toInt))).setReg r (BitVec.ofInt 16 p)

/-- IMUL r16, r/m16, imm16: spec/49_ext186.md R466. -/
def execImulImm16 (r : Reg16) (rm : RM16) (i : Word) (s : State) : Host.Outcome State Fault Refusal :=
  .next (s.mulInto r (s.read16 (s.loc rm)) i)

/-- IMUL r16, r/m16, imm8s: spec/49_ext186.md R467. -/
def execImulImm8 (r : Reg16) (rm : RM16) (i : Byte) (s : State) : Host.Outcome State Fault Refusal :=
  .next (s.mulInto r (s.read16 (s.loc rm)) (sext16 i))

/-- DIV: R362. -/
def execDiv (x : RmForm) (s : State) : Host.Outcome State Fault Refusal :=
  match x.operand s with
  | .b _ v =>
    let n := (s.reg .ax).toNat
    if v = 0 then .next s.divideError
    else if 0xFF < n / v.toNat then .next s.divideError
    else .next (s.setDiv8 (BitVec.ofNat 8 (n / v.toNat)) (BitVec.ofNat 8 (n % v.toNat)))
  | .w _ v =>
    let n := s.dxax.toNat
    if v = 0 then .next s.divideError
    else if 0xFFFF < n / v.toNat then .next s.divideError
    else .next (s.setDiv16 (BitVec.ofNat 16 (n / v.toNat)) (BitVec.ofNat 16 (n % v.toNat)))

/-- IDIV: R363. -/
def execIdiv (x : RmForm) (s : State) : Host.Outcome State Fault Refusal :=
  match x.operand s with
  | .b _ v =>
    let n := (s.reg .ax).toInt
    if v = 0 then .next s.divideError
    else if quotientOverflows 8 (n.tdiv v.toInt) then .next s.divideError
    else .next (s.setDiv8 (BitVec.ofInt 8 (n.tdiv v.toInt)) (BitVec.ofInt 8 (n.tmod v.toInt)))
  | .w _ v =>
    let n := s.dxax.toInt
    if v = 0 then .next s.divideError
    else if quotientOverflows 16 (n.tdiv v.toInt) then .next s.divideError
    else .next (s.setDiv16 (BitVec.ofInt 16 (n.tdiv v.toInt)) (BitVec.ofInt 16 (n.tmod v.toInt)))

end Sys2Proof.Machine
end

