-- ==== Sys2Proof/Machine/Prefixes.lean ====
section
/-! DEFINITION. The six prefix bytes (spec/30_encoding.md R103, R104): each overwrites the decode state; the prefix loop is in
Run.lean. notes/assumptions/11. -/

namespace Sys2Proof.Machine

/-- ES:: `seg_override <- ES` (R104). -/
def execSegEs (s : State) : Host.Outcome State Fault Refusal :=
  .next (s.setSegOverride (some .es))

/-- CS:: `seg_override <- CS` (R104). -/
def execSegCs (s : State) : Host.Outcome State Fault Refusal :=
  .next (s.setSegOverride (some .cs))

/-- SS:: `seg_override <- SS` (R104). -/
def execSegSs (s : State) : Host.Outcome State Fault Refusal :=
  .next (s.setSegOverride (some .ss))

/-- DS:: `seg_override <- DS` (R104). -/
def execSegDs (s : State) : Host.Outcome State Fault Refusal :=
  .next (s.setSegOverride (some .ds))

/-- REPNE: `rep_mode <- REPNE` (R104). -/
def execRepne (s : State) : Host.Outcome State Fault Refusal :=
  .next (s.setRepMode .repne)

/-- REP: `rep_mode <- REPE` (R104). -/
def execRep (s : State) : Host.Outcome State Fault Refusal :=
  .next (s.setRepMode .repe)

end Sys2Proof.Machine
end

