-- ==== Sys2Proof/Machine/Shift.lean ====
section
/-! DEFINITION. The shift and rotate instructions (spec/44_shift_rotate.md R330 to R339). -/

namespace Sys2Proof.Machine

/-- A shift or rotate of the operand by the count: with count 0 nothing at all, otherwise the flags, then the result (R330,
R339, U4). -/
def State.shift (s : State) (op : ShiftOp) (x : Operand) (n : Nat) : State :=
  if n = 0 then s
  else match x with
  | .b dst v =>
    ((s.setFlags (s.flags.afterShift op n v (s.freeBit 0) (s.freeBit 1))).drew 2).write8 dst
      (op.turns n (v, s.flags.cf)).1
  | .w dst v =>
    ((s.setFlags (s.flags.afterShift op n v (s.freeBit 0) (s.freeBit 1))).drew 2).write16 dst
      (op.turns n (v, s.flags.cf)).1

/-- ROL: R331. -/
def execRol (x : RmForm) (n : ShiftCount) (s : State) : Host.Outcome State Fault Refusal :=
  .next (s.shift .rol (x.operand s) (n.value s))

/-- ROR: R332. -/
def execRor (x : RmForm) (n : ShiftCount) (s : State) : Host.Outcome State Fault Refusal :=
  .next (s.shift .ror (x.operand s) (n.value s))

/-- RCL: R333. -/
def execRcl (x : RmForm) (n : ShiftCount) (s : State) : Host.Outcome State Fault Refusal :=
  .next (s.shift .rcl (x.operand s) (n.value s))

/-- RCR: R334. -/
def execRcr (x : RmForm) (n : ShiftCount) (s : State) : Host.Outcome State Fault Refusal :=
  .next (s.shift .rcr (x.operand s) (n.value s))

/-- SHL: R335. -/
def execShl (x : RmForm) (n : ShiftCount) (s : State) : Host.Outcome State Fault Refusal :=
  .next (s.shift .shl (x.operand s) (n.value s))

/-- SHR: R336. -/
def execShr (x : RmForm) (n : ShiftCount) (s : State) : Host.Outcome State Fault Refusal :=
  .next (s.shift .shr (x.operand s) (n.value s))

/-- SAR: R337. -/
def execSar (x : RmForm) (n : ShiftCount) (s : State) : Host.Outcome State Fault Refusal :=
  .next (s.shift .sar (x.operand s) (n.value s))

end Sys2Proof.Machine
end

