-- ==== Sys2Proof/Machine/StringOps.lean ====
section
/-! DEFINITION. The string instructions and the repeat rule (spec/43_string.md R300 to R309). -/

namespace Sys2Proof.Machine

/-! ### Common rules (R300, R301) -/

/-- `delta` for elements of n bytes (R300). -/
def State.delta (s : State) (n : Word) : Word := if s.flags.df then 0 - n else n

/-- `SI <- trunc_16(SI + delta)` (R300). -/
def State.stepSi (s : State) (n : Word) : State := s.setReg .si (s.reg .si + s.delta n)

/-- `DI <- trunc_16(DI + delta)` (R300). -/
def State.stepDi (s : State) (n : Word) : State := s.setReg .di (s.reg .di + s.delta n)

/-- The source element, 8 bits (R300). -/
def State.source8 (s : State) : Byte := s.readSeg8 s.dataSeg (s.reg .si)

/-- The source element, 16 bits (R300). -/
def State.source16 (s : State) : Word := s.readSeg16 s.dataSeg (s.reg .si)

/-- The destination element, 8 bits: ES, never overridden (R300). -/
def State.dest8 (s : State) : Byte := s.readSeg8 (s.seg .es) (s.reg .di)

/-- The destination element, 16 bits (R300). -/
def State.dest16 (s : State) : Word := s.readSeg16 (s.seg .es) (s.reg .di)

/-- Write the destination element, 8 bits (R300). -/
def State.writeDest8 (s : State) (v : Byte) : State := s.writeSeg8 (s.seg .es) (s.reg .di) v

/-- Write the destination element, 16 bits (R300). -/
def State.writeDest16 (s : State) (v : Word) : State := s.writeSeg16 (s.seg .es) (s.reg .di) v

/-- Does the repeat go on after an iteration: CX is not 0 and, for CMPS and SCAS, ZF matches (R301)? -/
def State.repeats (s : State) (compares : Bool) : Bool :=
  s.reg .cx != 0 && (!compares || (match s.repMode with
    | .norep => true
    | .repe => s.flags.zf
    | .repne => !s.flags.zf))

/-- One slot of a string instruction whose iteration is `body`; `compares` for CMPS and SCAS (R301). -/
def State.repeated (s : State) (compares : Bool) (body : State → State) : State :=
  if s.repMode = .norep then body s
  else if s.reg .cx = 0 then s
  else
    let t := (body s).setReg .cx ((body s).reg .cx - 1)
    if t.repeats compares then t.setIp t.firstIp else t

/-! ### One iteration (R302 to R308) -/

/-- One iteration of MOVSB (R302). -/
def State.movsb (s : State) : State := ((s.writeDest8 s.source8).stepSi 1).stepDi 1

/-- One iteration of MOVSW (R302). -/
def State.movsw (s : State) : State := ((s.writeDest16 s.source16).stepSi 2).stepDi 2

/-- One iteration of CMPSB (R303). -/
def State.cmpsb (s : State) : State :=
  ((s.setFlags (s.flags.afterSub s.source8 s.dest8 false)).stepSi 1).stepDi 1

/-- One iteration of CMPSW (R303). -/
def State.cmpsw (s : State) : State :=
  ((s.setFlags (s.flags.afterSub s.source16 s.dest16 false)).stepSi 2).stepDi 2

/-- One iteration of STOSB (R304). -/
def State.stosb (s : State) : State := (s.writeDest8 (s.reg8 .al)).stepDi 1

/-- One iteration of STOSW (R304). -/
def State.stosw (s : State) : State := (s.writeDest16 (s.reg .ax)).stepDi 2

/-- One iteration of LODSB (R305). -/
def State.lodsb (s : State) : State := (s.setReg8 .al s.source8).stepSi 1

/-- One iteration of LODSW (R305). -/
def State.lodsw (s : State) : State := (s.setReg .ax s.source16).stepSi 2

/-- One iteration of SCASB (R306). -/
def State.scasb (s : State) : State := (s.setFlags (s.flags.afterSub (s.reg8 .al) s.dest8 false)).stepDi 1

/-- One iteration of SCASW (R306). -/
def State.scasw (s : State) : State := (s.setFlags (s.flags.afterSub (s.reg .ax) s.dest16 false)).stepDi 2

/-- One iteration of INSB (R307). -/
def State.insb (s : State) : State :=
  let x := s.inByte (s.reg .dx)
  (x.2.writeDest8 x.1).stepDi 1

/-- One iteration of INSW (R307). -/
def State.insw (s : State) : State :=
  let x := s.inWord (s.reg .dx)
  (x.2.writeDest16 x.1).stepDi 2

/-- One iteration of OUTSB (R308). -/
def State.outsb (s : State) : State := (s.outByte (s.reg .dx) s.source8).stepSi 1

/-- One iteration of OUTSW (R308). -/
def State.outsw (s : State) : State := (s.outWord (s.reg .dx) s.source16).stepSi 2

/-! ### The instructions -/

/-- MOVSB: R302 under R301. -/
def execMovsb (s : State) : Host.Outcome State Fault Refusal :=
  .next (s.repeated false State.movsb)

/-- MOVSW: R302 under R301. -/
def execMovsw (s : State) : Host.Outcome State Fault Refusal :=
  .next (s.repeated false State.movsw)

/-- CMPSB: R303 under R301. -/
def execCmpsb (s : State) : Host.Outcome State Fault Refusal :=
  .next (s.repeated true State.cmpsb)

/-- CMPSW: R303 under R301. -/
def execCmpsw (s : State) : Host.Outcome State Fault Refusal :=
  .next (s.repeated true State.cmpsw)

/-- STOSB: R304 under R301. -/
def execStosb (s : State) : Host.Outcome State Fault Refusal :=
  .next (s.repeated false State.stosb)

/-- STOSW: R304 under R301. -/
def execStosw (s : State) : Host.Outcome State Fault Refusal :=
  .next (s.repeated false State.stosw)

/-- LODSB: R305 under R301. -/
def execLodsb (s : State) : Host.Outcome State Fault Refusal :=
  .next (s.repeated false State.lodsb)

/-- LODSW: R305 under R301. -/
def execLodsw (s : State) : Host.Outcome State Fault Refusal :=
  .next (s.repeated false State.lodsw)

/-- SCASB: R306 under R301. -/
def execScasb (s : State) : Host.Outcome State Fault Refusal :=
  .next (s.repeated true State.scasb)

/-- SCASW: R306 under R301. -/
def execScasw (s : State) : Host.Outcome State Fault Refusal :=
  .next (s.repeated true State.scasw)

/-- INSB: R307 under R301. -/
def execInsb (s : State) : Host.Outcome State Fault Refusal :=
  .next (s.repeated false State.insb)

/-- INSW: R307 under R301. -/
def execInsw (s : State) : Host.Outcome State Fault Refusal :=
  .next (s.repeated false State.insw)

/-- OUTSB: R308 under R301. -/
def execOutsb (s : State) : Host.Outcome State Fault Refusal :=
  .next (s.repeated false State.outsb)

/-- OUTSW: R308 under R301. -/
def execOutsw (s : State) : Host.Outcome State Fault Refusal :=
  .next (s.repeated false State.outsw)

end Sys2Proof.Machine
end

