-- ==== Sys2Proof/Machine/Dispatch.lean ====
section
/-! DEFINITION. One arm per constructor of `Instr`, each one direct call of its meaning (spec/30_encoding.md R116: "Then the
instruction's rule executes"). -/

namespace Sys2Proof.Machine

def exec (i : Instr) (s : State) : Host.Outcome State Fault Refusal :=
  match i with
  | .add f => Sys2Proof.Machine.execAdd f s
  | .or f => Sys2Proof.Machine.execOr f s
  | .adc f => Sys2Proof.Machine.execAdc f s
  | .sbb f => Sys2Proof.Machine.execSbb f s
  | .and f => Sys2Proof.Machine.execAnd f s
  | .sub f => Sys2Proof.Machine.execSub f s
  | .xor f => Sys2Proof.Machine.execXor f s
  | .cmp f => Sys2Proof.Machine.execCmp f s
  | .inc f => Sys2Proof.Machine.execInc f s
  | .dec f => Sys2Proof.Machine.execDec f s
  | .neg x => Sys2Proof.Machine.execNeg x s
  | .not x => Sys2Proof.Machine.execNot x s
  | .test f => Sys2Proof.Machine.execTest f s
  | .movRmReg x => Sys2Proof.Machine.execMovRmReg x s
  | .movRegRm x => Sys2Proof.Machine.execMovRegRm x s
  | .movRmImm x => Sys2Proof.Machine.execMovRmImm x s
  | .movRegImm x => Sys2Proof.Machine.execMovRegImm x s
  | .movAccMoffs w off => Sys2Proof.Machine.execMovAccMoffs w off s
  | .movMoffsAcc w off => Sys2Proof.Machine.execMovMoffsAcc w off s
  | .movSregRm sr rm => Sys2Proof.Machine.execMovSregRm sr rm s
  | .movRmSreg rm sr => Sys2Proof.Machine.execMovRmSreg rm sr s
  | .pushReg r => Sys2Proof.Machine.execPushReg r s
  | .pushSreg sr => Sys2Proof.Machine.execPushSreg sr s
  | .pushRm rm => Sys2Proof.Machine.execPushRm rm s
  | .popReg r => Sys2Proof.Machine.execPopReg r s
  | .popSreg sr => Sys2Proof.Machine.execPopSreg sr s
  | .popRm rm => Sys2Proof.Machine.execPopRm rm s
  | .xchgRmReg x => Sys2Proof.Machine.execXchgRmReg x s
  | .xchgAx r => Sys2Proof.Machine.execXchgAx r s
  | .nop => Sys2Proof.Machine.execNop s
  | .lea r m => Sys2Proof.Machine.execLea r m s
  | .lds r m => Sys2Proof.Machine.execLds r m s
  | .les r m => Sys2Proof.Machine.execLes r m s
  | .xlat => Sys2Proof.Machine.execXlat s
  | .cbw => Sys2Proof.Machine.execCbw s
  | .cwd => Sys2Proof.Machine.execCwd s
  | .jo rel => Sys2Proof.Machine.execJo rel s
  | .jno rel => Sys2Proof.Machine.execJno rel s
  | .jb rel => Sys2Proof.Machine.execJb rel s
  | .jnb rel => Sys2Proof.Machine.execJnb rel s
  | .jz rel => Sys2Proof.Machine.execJz rel s
  | .jnz rel => Sys2Proof.Machine.execJnz rel s
  | .jbe rel => Sys2Proof.Machine.execJbe rel s
  | .ja rel => Sys2Proof.Machine.execJa rel s
  | .js rel => Sys2Proof.Machine.execJs rel s
  | .jns rel => Sys2Proof.Machine.execJns rel s
  | .jp rel => Sys2Proof.Machine.execJp rel s
  | .jnp rel => Sys2Proof.Machine.execJnp rel s
  | .jl rel => Sys2Proof.Machine.execJl rel s
  | .jge rel => Sys2Proof.Machine.execJge rel s
  | .jle rel => Sys2Proof.Machine.execJle rel s
  | .jg rel => Sys2Proof.Machine.execJg rel s
  | .jmpShort rel => Sys2Proof.Machine.execJmpShort rel s
  | .jmpNear rel => Sys2Proof.Machine.execJmpNear rel s
  | .jmpFar off seg => Sys2Proof.Machine.execJmpFar off seg s
  | .jmpRm rm => Sys2Proof.Machine.execJmpRm rm s
  | .jmpMem m => Sys2Proof.Machine.execJmpMem m s
  | .callNear rel => Sys2Proof.Machine.execCallNear rel s
  | .callFar off seg => Sys2Proof.Machine.execCallFar off seg s
  | .callRm rm => Sys2Proof.Machine.execCallRm rm s
  | .callMem m => Sys2Proof.Machine.execCallMem m s
  | .ret => Sys2Proof.Machine.execRet s
  | .retImm n => Sys2Proof.Machine.execRetImm n s
  | .retf => Sys2Proof.Machine.execRetf s
  | .retfImm n => Sys2Proof.Machine.execRetfImm n s
  | .loop rel => Sys2Proof.Machine.execLoop rel s
  | .loopz rel => Sys2Proof.Machine.execLoopz rel s
  | .loopnz rel => Sys2Proof.Machine.execLoopnz rel s
  | .jcxz rel => Sys2Proof.Machine.execJcxz rel s
  | .movsb => Sys2Proof.Machine.execMovsb s
  | .movsw => Sys2Proof.Machine.execMovsw s
  | .cmpsb => Sys2Proof.Machine.execCmpsb s
  | .cmpsw => Sys2Proof.Machine.execCmpsw s
  | .stosb => Sys2Proof.Machine.execStosb s
  | .stosw => Sys2Proof.Machine.execStosw s
  | .lodsb => Sys2Proof.Machine.execLodsb s
  | .lodsw => Sys2Proof.Machine.execLodsw s
  | .scasb => Sys2Proof.Machine.execScasb s
  | .scasw => Sys2Proof.Machine.execScasw s
  | .insb => Sys2Proof.Machine.execInsb s
  | .insw => Sys2Proof.Machine.execInsw s
  | .outsb => Sys2Proof.Machine.execOutsb s
  | .outsw => Sys2Proof.Machine.execOutsw s
  | .rol x n => Sys2Proof.Machine.execRol x n s
  | .ror x n => Sys2Proof.Machine.execRor x n s
  | .rcl x n => Sys2Proof.Machine.execRcl x n s
  | .rcr x n => Sys2Proof.Machine.execRcr x n s
  | .shl x n => Sys2Proof.Machine.execShl x n s
  | .shr x n => Sys2Proof.Machine.execShr x n s
  | .sar x n => Sys2Proof.Machine.execSar x n s
  | .mul x => Sys2Proof.Machine.execMul x s
  | .imul x => Sys2Proof.Machine.execImul x s
  | .imulImm16 r rm v => Sys2Proof.Machine.execImulImm16 r rm v s
  | .imulImm8 r rm v => Sys2Proof.Machine.execImulImm8 r rm v s
  | .div x => Sys2Proof.Machine.execDiv x s
  | .idiv x => Sys2Proof.Machine.execIdiv x s
  | .daa => Sys2Proof.Machine.execDaa s
  | .das => Sys2Proof.Machine.execDas s
  | .aaa => Sys2Proof.Machine.execAaa s
  | .aas => Sys2Proof.Machine.execAas s
  | .aam base => Sys2Proof.Machine.execAam base s
  | .aad base => Sys2Proof.Machine.execAad base s
  | .clc => Sys2Proof.Machine.execClc s
  | .stc => Sys2Proof.Machine.execStc s
  | .cmc => Sys2Proof.Machine.execCmc s
  | .cld => Sys2Proof.Machine.execCld s
  | .std => Sys2Proof.Machine.execStd s
  | .cli => Sys2Proof.Machine.execCli s
  | .sti => Sys2Proof.Machine.execSti s
  | .lahf => Sys2Proof.Machine.execLahf s
  | .sahf => Sys2Proof.Machine.execSahf s
  | .pushf => Sys2Proof.Machine.execPushf s
  | .popf => Sys2Proof.Machine.execPopf s
  | .inImm w port => Sys2Proof.Machine.execInImm w port s
  | .inDx w => Sys2Proof.Machine.execInDx w s
  | .outImm w port => Sys2Proof.Machine.execOutImm w port s
  | .outDx w => Sys2Proof.Machine.execOutDx w s
  | .int3 => Sys2Proof.Machine.execInt3 s
  | .int n => Sys2Proof.Machine.execInt n s
  | .into => Sys2Proof.Machine.execInto s
  | .iret => Sys2Proof.Machine.execIret s
  | .hlt => Sys2Proof.Machine.execHlt s
  | .lock => Sys2Proof.Machine.execLock s
  | .wait => Sys2Proof.Machine.execWait s
  | .esc sel reg rm => Sys2Proof.Machine.execEsc sel reg rm s
  | .illegalOp op => Sys2Proof.Machine.execIllegalOp op s
  | .illegalModrm op reg rm => Sys2Proof.Machine.execIllegalModrm op reg rm s
  | .pusha => Sys2Proof.Machine.execPusha s
  | .popa => Sys2Proof.Machine.execPopa s
  | .bound r m => Sys2Proof.Machine.execBound r m s
  | .pushImm16 v => Sys2Proof.Machine.execPushImm16 v s
  | .pushImm8 v => Sys2Proof.Machine.execPushImm8 v s
  | .enter size level => Sys2Proof.Machine.execEnter size level s
  | .leave => Sys2Proof.Machine.execLeave s
  | .segEs => Sys2Proof.Machine.execSegEs s
  | .segCs => Sys2Proof.Machine.execSegCs s
  | .segSs => Sys2Proof.Machine.execSegSs s
  | .segDs => Sys2Proof.Machine.execSegDs s
  | .repne => Sys2Proof.Machine.execRepne s
  | .rep => Sys2Proof.Machine.execRep s

end Sys2Proof.Machine
end

