-- ==== Sys2Proof/WellFormed.lean ====
section
/-! DEFINITION. What makes a term of `Instr` an instruction that some byte sequence encodes: the checks the spec's encoding
tables make. Each check is a Bool, so that `decide` runs on it. -/

namespace Sys2Proof

/-- A memory operand is encodable unless it is `[BP]` without displacement: mod 0 with rm 6 is the direct address
(spec/30_encoding.md R107, R108). -/
def MemOp.wellFormed : MemOp → Bool
  | .based .bp .no => false
  | .based _ _ => true
  | .direct _ => true

/-- A register operand is always encodable, a memory operand when its formula is. -/
def RM.wellFormed {ρ : Type} : RM ρ → Bool
  | .reg _ => true
  | .mem m => m.wellFormed

def RmForm.wellFormed : RmForm → Bool
  | .b rm => rm.wellFormed
  | .w rm => rm.wellFormed

def RmReg.wellFormed : RmReg → Bool
  | .b rm _ => rm.wellFormed
  | .w rm _ => rm.wellFormed

def RmImm.wellFormed : RmImm → Bool
  | .b rm _ => rm.wellFormed
  | .w rm _ => rm.wellFormed

def AluForm.wellFormed : AluForm → Bool
  | .rmReg x => x.wellFormed
  | .regRm x => x.wellFormed
  | .accImm _ => true
  | .rmImm x => x.wellFormed
  | .rmImm8s rm _ => rm.wellFormed

def TestForm.wellFormed : TestForm → Bool
  | .rmReg x => x.wellFormed
  | .accImm _ => true
  | .rmImm x => x.wellFormed

def IncForm.wellFormed : IncForm → Bool
  | .r16 _ => true
  | .rm x => x.wellFormed

/-- An immediate shift count exists only among the 80186 additions (spec/44_shift_rotate.md R330, spec/49_ext186.md
R460). -/
def ShiftCount.legal (ext : Bool) : ShiftCount → Bool
  | .one => true
  | .cl => true
  | .imm _ => ext

/-- The first bytes that are illegal by themselves (spec/30_encoding.md R125): always, or only when `EXT186` is
false (spec/49_ext186.md R460). -/
def illegalFirstByte (ext : Bool) (op : Byte) : Bool :=
  [0x0F, 0x63, 0x64, 0x65, 0x66, 0x67, 0xD6, 0xF1].contains op.toNat
    || (!ext && [0x60, 0x61, 0x62, 0x68, 0x69, 0x6A, 0x6B, 0xC0, 0xC1, 0xC8, 0xC9].contains op.toNat)

/-- Is the r/m operand a register (mod = 3)? -/
def RM.isReg {ρ : Type} : RM ρ → Bool
  | .reg _ => true
  | .mem _ => false

/-- The illegal combinations of an opcode byte with the ModRM reg field and a mod of 3 (spec/30_encoding.md R125, R119 to
R124). -/
def illegalSecondByte (ext : Bool) (op : Byte) (reg : BitVec 3) (isReg : Bool) : Bool :=
  match op.toNat with
  | 0x62 => ext && isReg
  | 0x8C => 4 ≤ reg.toNat
  | 0x8E => 4 ≤ reg.toNat
  | 0x8D => isReg
  | 0x8F => reg.toNat ≠ 0
  | 0xC0 => ext && reg.toNat = 6
  | 0xC1 => ext && reg.toNat = 6
  | 0xC4 => isReg
  | 0xC5 => isReg
  | 0xC6 => reg.toNat ≠ 0
  | 0xC7 => reg.toNat ≠ 0
  | 0xD0 => reg.toNat = 6
  | 0xD1 => reg.toNat = 6
  | 0xD2 => reg.toNat = 6
  | 0xD3 => reg.toNat = 6
  | 0xF6 => reg.toNat = 1
  | 0xF7 => reg.toNat = 1
  | 0xFE => 2 ≤ reg.toNat
  | 0xFF => reg.toNat = 7 || (isReg && (reg.toNat = 3 || reg.toNat = 5))
  | _ => false

/-- The checks of an instruction, one line per constructor, with `ext` the parameter `EXT186`. -/
def Instr.wellFormedWith (ext : Bool) : Instr → Bool
  | .add f => f.wellFormed
  | .or f => f.wellFormed
  | .adc f => f.wellFormed
  | .sbb f => f.wellFormed
  | .and f => f.wellFormed
  | .sub f => f.wellFormed
  | .xor f => f.wellFormed
  | .cmp f => f.wellFormed
  | .inc f => f.wellFormed
  | .dec f => f.wellFormed
  | .neg x => x.wellFormed
  | .not x => x.wellFormed
  | .test f => f.wellFormed
  | .movRmReg x => x.wellFormed
  | .movRegRm x => x.wellFormed
  | .movRmImm x => x.wellFormed
  | .movRegImm _ => true
  | .movAccMoffs _ _ => true
  | .movMoffsAcc _ _ => true
  | .movSregRm _ rm => rm.wellFormed
  | .movRmSreg rm _ => rm.wellFormed
  | .pushReg _ => true
  | .pushSreg _ => true
  | .pushRm rm => rm.wellFormed
  | .popReg _ => true
  | .popSreg sr => sr != .cs
  | .popRm rm => rm.wellFormed
  | .xchgRmReg x => x.wellFormed
  | .xchgAx r => r != .ax
  | .nop => true
  | .lea _ m => m.wellFormed
  | .lds _ m => m.wellFormed
  | .les _ m => m.wellFormed
  | .xlat => true
  | .cbw => true
  | .cwd => true
  | .jo _ => true
  | .jno _ => true
  | .jb _ => true
  | .jnb _ => true
  | .jz _ => true
  | .jnz _ => true
  | .jbe _ => true
  | .ja _ => true
  | .js _ => true
  | .jns _ => true
  | .jp _ => true
  | .jnp _ => true
  | .jl _ => true
  | .jge _ => true
  | .jle _ => true
  | .jg _ => true
  | .jmpShort _ => true
  | .jmpNear _ => true
  | .jmpFar _ _ => true
  | .jmpRm rm => rm.wellFormed
  | .jmpMem m => m.wellFormed
  | .callNear _ => true
  | .callFar _ _ => true
  | .callRm rm => rm.wellFormed
  | .callMem m => m.wellFormed
  | .ret => true
  | .retImm _ => true
  | .retf => true
  | .retfImm _ => true
  | .loop _ => true
  | .loopz _ => true
  | .loopnz _ => true
  | .jcxz _ => true
  | .movsb => true
  | .movsw => true
  | .cmpsb => true
  | .cmpsw => true
  | .stosb => true
  | .stosw => true
  | .lodsb => true
  | .lodsw => true
  | .scasb => true
  | .scasw => true
  | .insb => true
  | .insw => true
  | .outsb => true
  | .outsw => true
  | .rol x n => x.wellFormed && n.legal ext
  | .ror x n => x.wellFormed && n.legal ext
  | .rcl x n => x.wellFormed && n.legal ext
  | .rcr x n => x.wellFormed && n.legal ext
  | .shl x n => x.wellFormed && n.legal ext
  | .shr x n => x.wellFormed && n.legal ext
  | .sar x n => x.wellFormed && n.legal ext
  | .mul x => x.wellFormed
  | .imul x => x.wellFormed
  | .imulImm16 _ rm _ => ext && rm.wellFormed
  | .imulImm8 _ rm _ => ext && rm.wellFormed
  | .div x => x.wellFormed
  | .idiv x => x.wellFormed
  | .daa => true
  | .das => true
  | .aaa => true
  | .aas => true
  | .aam _ => true
  | .aad _ => true
  | .clc => true
  | .stc => true
  | .cmc => true
  | .cld => true
  | .std => true
  | .cli => true
  | .sti => true
  | .lahf => true
  | .sahf => true
  | .pushf => true
  | .popf => true
  | .inImm _ _ => true
  | .inDx _ => true
  | .outImm _ _ => true
  | .outDx _ => true
  | .int3 => true
  | .int _ => true
  | .into => true
  | .iret => true
  | .hlt => true
  | .lock => true
  | .wait => true
  | .esc _ _ rm => rm.wellFormed
  | .illegalOp op => illegalFirstByte ext op
  | .illegalModrm op reg rm => rm.wellFormed && illegalSecondByte ext op reg rm.isReg
  | .pusha => ext
  | .popa => ext
  | .bound _ m => ext && m.wellFormed
  | .pushImm16 _ => ext
  | .pushImm8 _ => ext
  | .enter _ _ => ext
  | .leave => ext
  | .segEs => true
  | .segCs => true
  | .segSs => true
  | .segDs => true
  | .repne => true
  | .rep => true

/-- Well-formed on this hardware, whose `EXT186` is `Config.ext186`. -/
def Instr.wellFormed (i : Instr) : Bool := i.wellFormedWith Config.ext186

/-- The six prefix bytes (spec/30_encoding.md R104): after one of them decoding goes on within the same slot. -/
def Instr.isPrefix : Instr → Bool
  | .segEs | .segCs | .segSs | .segDs | .repne | .rep => true
  | _ => false

end Sys2Proof
end

