-- ==== Sys2Proof/Decode.lean ====
section
/-! DEFINITION. The decoder (spec/30_encoding.md R101 to R125), total on any list of bytes, and the encoder written from the
same tables. The decoder reads ONE item: an instruction without prefixes, or one prefix byte; the prefix loop of R103
is the machine's (Machine/Run.lean), since a prefix updates decode state that stands in State. -/

namespace Sys2Proof

open Machine (wordOf low8 high8)

/-- Why a list of bytes is no instruction: it ends before the instruction does. No byte VALUE is ever rejected: an illegal
encoding is an instruction of its own (R116, R125). -/
inductive DecodeError where
  /-- no opcode byte -/
  | noOpcode
  /-- the opcode takes a ModRM byte and none follows -/
  | noModrm
  /-- the ModRM byte takes a displacement and its bytes do not follow -/
  | noDisplacement
  /-- the opcode takes an immediate and its bytes do not follow -/
  | noImmediate
  deriving DecidableEq, Repr

/-! ### Register and formula numbers (R20, R21, R23, R108) -/

def Reg16.ofBits (n : BitVec 3) : Reg16 :=
  match n.toNat with
  | 0 => .ax | 1 => .cx | 2 => .dx | 3 => .bx | 4 => .sp | 5 => .bp | 6 => .si | _ => .di

def Reg16.toBits : Reg16 → BitVec 3
  | .ax => 0 | .cx => 1 | .dx => 2 | .bx => 3 | .sp => 4 | .bp => 5 | .si => 6 | .di => 7

def Reg8.ofBits (n : BitVec 3) : Reg8 :=
  match n.toNat with
  | 0 => .al | 1 => .cl | 2 => .dl | 3 => .bl | 4 => .ah | 5 => .ch | 6 => .dh | _ => .bh

def Reg8.toBits : Reg8 → BitVec 3
  | .al => 0 | .cl => 1 | .dl => 2 | .bl => 3 | .ah => 4 | .ch => 5 | .dh => 6 | .bh => 7

/-- The segment register a three-bit field names; 4 to 7 name none (R111, R124). -/
def SReg.ofBits (n : BitVec 3) : Option SReg :=
  match n.toNat with
  | 0 => some .es | 1 => some .cs | 2 => some .ss | 3 => some .ds | _ => none

def SReg.toBits : SReg → BitVec 3
  | .es => 0 | .cs => 1 | .ss => 2 | .ds => 3

def EaBase.ofBits (n : BitVec 3) : EaBase :=
  match n.toNat with
  | 0 => .bxSi | 1 => .bxDi | 2 => .bpSi | 3 => .bpDi | 4 => .si | 5 => .di | 6 => .bp | _ => .bx

def EaBase.toBits : EaBase → BitVec 3
  | .bxSi => 0 | .bxDi => 1 | .bpSi => 2 | .bpDi => 3 | .si => 4 | .di => 5 | .bp => 6 | .bx => 7

/-- The r/m operand with its register number read at a width (R111). -/
def RM.map {ρ σ : Type} (f : ρ → σ) : RM ρ → RM σ
  | .reg r => .reg (f r)
  | .mem m => .mem m

/-! ### ModRM (R107, R108) -/

/-- The fields of the ModRM byte: reg, the r/m operand (a register number when mod = 3), and the bytes that remain after
the displacement. -/
def decodeModrm : List Byte → Except DecodeError (BitVec 3 × RM (BitVec 3) × List Byte)
  | [] => .error .noModrm
  | b :: rest =>
    let mode := b.extractLsb' 6 2
    let reg := b.extractLsb' 3 3
    let rm := b.extractLsb' 0 3
    match mode.toNat with
    | 0 =>
      if rm = 6 then
        match rest with
        | lo :: hi :: rest => .ok (reg, .mem (.direct (wordOf hi lo)), rest)
        | _ => .error .noDisplacement
      else .ok (reg, .mem (.based (EaBase.ofBits rm) .no), rest)
    | 1 =>
      match rest with
      | d :: rest => .ok (reg, .mem (.based (EaBase.ofBits rm) (.d8 d)), rest)
      | _ => .error .noDisplacement
    | 2 =>
      match rest with
      | lo :: hi :: rest => .ok (reg, .mem (.based (EaBase.ofBits rm) (.d16 (wordOf hi lo))), rest)
      | _ => .error .noDisplacement
    | _ => .ok (reg, .reg rm, rest)

/-! ### The opcode map (R117) -/

/-- What follows the opcode byte, or the ModRM byte with its displacement: nothing, or the immediate of the format
(R101, R115). -/
inductive Tail where
  | done (i : Instr)
  | imm8 (k : Byte → Instr)
  | imm16 (k : Word → Instr)
  | imm16imm8 (k : Word → Byte → Instr)
  | far (k : Word → Word → Instr)

/-- A row of the opcode map: with or without a ModRM byte (column "format" of R117). -/
inductive Row where
  | plain (t : Tail)
  | modrm (k : BitVec 3 → RM (BitVec 3) → Tail)

def rm8 (rm : RM (BitVec 3)) : RM8 := rm.map Reg8.ofBits
def rm16 (rm : RM (BitVec 3)) : RM16 := rm.map Reg16.ofBits

/-- The eight two-operand operations by their number (R106, R150). -/
def aluInstr (o : BitVec 3) (f : AluForm) : Instr :=
  match o.toNat with
  | 0 => .add f | 1 => .or f | 2 => .adc f | 3 => .sbb f | 4 => .and f | 5 => .sub f | 6 => .xor f | _ => .cmp f

/-- Opcodes 00 to 3F: `00ooo` and the low three bits (R106, R117). -/
def rowAlu (o lo : BitVec 3) : Row :=
  match lo.toNat with
  | 0 => .modrm fun reg rm => .done (aluInstr o (.rmReg (.b (rm8 rm) (Reg8.ofBits reg))))
  | 1 => .modrm fun reg rm => .done (aluInstr o (.rmReg (.w (rm16 rm) (Reg16.ofBits reg))))
  | 2 => .modrm fun reg rm => .done (aluInstr o (.regRm (.b (rm8 rm) (Reg8.ofBits reg))))
  | 3 => .modrm fun reg rm => .done (aluInstr o (.regRm (.w (rm16 rm) (Reg16.ofBits reg))))
  | 4 => .plain (.imm8 fun i => aluInstr o (.accImm (.b i)))
  | 5 => .plain (.imm16 fun i => aluInstr o (.accImm (.w i)))
  | 6 => .plain (.done (match o.toNat with
      | 0 => .pushSreg .es | 1 => .pushSreg .cs | 2 => .pushSreg .ss | 3 => .pushSreg .ds
      | 4 => .segEs | 5 => .segCs | 6 => .segSs | _ => .segDs))
  | _ => .plain (.done (match o.toNat with
      | 0 => .popSreg .es | 1 => .illegalOp 0x0F | 2 => .popSreg .ss | 3 => .popSreg .ds
      | 4 => .daa | 5 => .das | 6 => .aaa | _ => .aas))

/-- Opcodes 60 to 6F (R117, R460). -/
def row6 (ext : Bool) (op : Byte) : Row :=
  if ext = false && illegalFirstByte false op then .plain (.done (.illegalOp op))
  else match op.toNat with
  | 0x60 => .plain (.done .pusha)
  | 0x61 => .plain (.done .popa)
  | 0x62 => .modrm fun reg rm => .done (match rm with
      | .mem m => .bound (Reg16.ofBits reg) m
      | .reg _ => .illegalModrm op reg (rm16 rm))
  | 0x68 => .plain (.imm16 .pushImm16)
  | 0x69 => .modrm fun reg rm => .imm16 (.imulImm16 (Reg16.ofBits reg) (rm16 rm))
  | 0x6A => .plain (.imm8 .pushImm8)
  | 0x6B => .modrm fun reg rm => .imm8 (.imulImm8 (Reg16.ofBits reg) (rm16 rm))
  | 0x6C => .plain (.done .insb)
  | 0x6D => .plain (.done .insw)
  | 0x6E => .plain (.done .outsb)
  | 0x6F => .plain (.done .outsw)
  | _ => .plain (.done (.illegalOp op))

/-- The sixteen conditional jumps by cc (R250 of spec/42_control_transfer.md). -/
def jccInstr (cc : BitVec 4) (rel : Byte) : Instr :=
  match cc.toNat with
  | 0 => .jo rel | 1 => .jno rel | 2 => .jb rel | 3 => .jnb rel
  | 4 => .jz rel | 5 => .jnz rel | 6 => .jbe rel | 7 => .ja rel
  | 8 => .js rel | 9 => .jns rel | 10 => .jp rel | 11 => .jnp rel
  | 12 => .jl rel | 13 => .jge rel | 14 => .jle rel | _ => .jg rel

/-- Opcodes 80 to 8F: group 1, TEST, XCHG, MOV, LEA, segment moves, group 1A (R117, R118, R123, R124). -/
def row8 (op : Byte) : Row :=
  match op.toNat with
  | 0x80 => .modrm fun reg rm => .imm8 fun i => aluInstr reg (.rmImm (.b (rm8 rm) i))
  | 0x81 => .modrm fun reg rm => .imm16 fun i => aluInstr reg (.rmImm (.w (rm16 rm) i))
  | 0x82 => .modrm fun reg rm => .imm8 fun i => aluInstr reg (.rmImm (.b (rm8 rm) i))
  | 0x83 => .modrm fun reg rm => .imm8 fun i => aluInstr reg (.rmImm8s (rm16 rm) i)
  | 0x84 => .modrm fun reg rm => .done (.test (.rmReg (.b (rm8 rm) (Reg8.ofBits reg))))
  | 0x85 => .modrm fun reg rm => .done (.test (.rmReg (.w (rm16 rm) (Reg16.ofBits reg))))
  | 0x86 => .modrm fun reg rm => .done (.xchgRmReg (.b (rm8 rm) (Reg8.ofBits reg)))
  | 0x87 => .modrm fun reg rm => .done (.xchgRmReg (.w (rm16 rm) (Reg16.ofBits reg)))
  | 0x88 => .modrm fun reg rm => .done (.movRmReg (.b (rm8 rm) (Reg8.ofBits reg)))
  | 0x89 => .modrm fun reg rm => .done (.movRmReg (.w (rm16 rm) (Reg16.ofBits reg)))
  | 0x8A => .modrm fun reg rm => .done (.movRegRm (.b (rm8 rm) (Reg8.ofBits reg)))
  | 0x8B => .modrm fun reg rm => .done (.movRegRm (.w (rm16 rm) (Reg16.ofBits reg)))
  | 0x8C => .modrm fun reg rm => .done (match SReg.ofBits reg with
      | some sr => .movRmSreg (rm16 rm) sr
      | none => .illegalModrm op reg (rm16 rm))
  | 0x8D => .modrm fun reg rm => .done (match rm with
      | .mem m => .lea (Reg16.ofBits reg) m
      | .reg _ => .illegalModrm op reg (rm16 rm))
  | 0x8E => .modrm fun reg rm => .done (match SReg.ofBits reg with
      | some sr => .movSregRm sr (rm16 rm)
      | none => .illegalModrm op reg (rm16 rm))
  | _ => .modrm fun reg rm => .done (if reg = 0 then .popRm (rm16 rm) else .illegalModrm op reg (rm16 rm))

/-- Opcodes 90 to 9F (R117): 90 is NOP, 91 to 97 exchange with AX. -/
def row9 (op : Byte) : Row :=
  match op.toNat with
  | 0x90 => .plain (.done .nop)
  | 0x98 => .plain (.done .cbw)
  | 0x99 => .plain (.done .cwd)
  | 0x9A => .plain (.far .callFar)
  | 0x9B => .plain (.done .wait)
  | 0x9C => .plain (.done .pushf)
  | 0x9D => .plain (.done .popf)
  | 0x9E => .plain (.done .sahf)
  | 0x9F => .plain (.done .lahf)
  | _ => .plain (.done (.xchgAx (Reg16.ofBits (op.extractLsb' 0 3))))

/-- Opcodes A0 to AF (R117). -/
def rowA (op : Byte) : Row :=
  match op.toNat with
  | 0xA0 => .plain (.imm16 (.movAccMoffs .byte))
  | 0xA1 => .plain (.imm16 (.movAccMoffs .word))
  | 0xA2 => .plain (.imm16 (.movMoffsAcc .byte))
  | 0xA3 => .plain (.imm16 (.movMoffsAcc .word))
  | 0xA4 => .plain (.done .movsb)
  | 0xA5 => .plain (.done .movsw)
  | 0xA6 => .plain (.done .cmpsb)
  | 0xA7 => .plain (.done .cmpsw)
  | 0xA8 => .plain (.imm8 fun i => .test (.accImm (.b i)))
  | 0xA9 => .plain (.imm16 fun i => .test (.accImm (.w i)))
  | 0xAA => .plain (.done .stosb)
  | 0xAB => .plain (.done .stosw)
  | 0xAC => .plain (.done .lodsb)
  | 0xAD => .plain (.done .lodsw)
  | 0xAE => .plain (.done .scasb)
  | _ => .plain (.done .scasw)

/-- Group 2 by the reg field; 6 is illegal (R119, R338). -/
def shiftInstr (reg : BitVec 3) (x : RmForm) (n : ShiftCount) : Option Instr :=
  match reg.toNat with
  | 0 => some (.rol x n) | 1 => some (.ror x n) | 2 => some (.rcl x n) | 3 => some (.rcr x n)
  | 4 => some (.shl x n) | 5 => some (.shr x n) | 6 => none | _ => some (.sar x n)

/-- A member of group 2 without immediate, or the illegal member. -/
def shiftTail (op : Byte) (reg : BitVec 3) (rm : RM (BitVec 3)) (x : RmForm) (n : ShiftCount) : Tail :=
  match shiftInstr reg x n with
  | some i => .done i
  | none => .done (.illegalModrm op reg (rm16 rm))

/-- A member of group 2 with the immediate count, which an illegal member does not consume (R338, R468). -/
def shiftImmTail (op : Byte) (reg : BitVec 3) (rm : RM (BitVec 3)) (x : RmForm) : Tail :=
  if reg = 6 then .done (.illegalModrm op reg (rm16 rm))
  else .imm8 fun i => (shiftInstr reg x (.imm i)).getD (.illegalModrm op reg (rm16 rm))

/-- Opcodes C0 to CF (R117, R119, R123, R460). -/
def rowC (ext : Bool) (op : Byte) : Row :=
  if ext = false && illegalFirstByte false op then .plain (.done (.illegalOp op))
  else match op.toNat with
  | 0xC0 => .modrm fun reg rm => shiftImmTail op reg rm (.b (rm8 rm))
  | 0xC1 => .modrm fun reg rm => shiftImmTail op reg rm (.w (rm16 rm))
  | 0xC2 => .plain (.imm16 .retImm)
  | 0xC3 => .plain (.done .ret)
  | 0xC4 => .modrm fun reg rm => .done (match rm with
      | .mem m => .les (Reg16.ofBits reg) m
      | .reg _ => .illegalModrm op reg (rm16 rm))
  | 0xC5 => .modrm fun reg rm => .done (match rm with
      | .mem m => .lds (Reg16.ofBits reg) m
      | .reg _ => .illegalModrm op reg (rm16 rm))
  | 0xC6 => .modrm fun reg rm =>
      if reg = 0 then .imm8 fun i => .movRmImm (.b (rm8 rm) i) else .done (.illegalModrm op reg (rm16 rm))
  | 0xC7 => .modrm fun reg rm =>
      if reg = 0 then .imm16 fun i => .movRmImm (.w (rm16 rm) i) else .done (.illegalModrm op reg (rm16 rm))
  | 0xC8 => .plain (.imm16imm8 .enter)
  | 0xC9 => .plain (.done .leave)
  | 0xCA => .plain (.imm16 .retfImm)
  | 0xCB => .plain (.done .retf)
  | 0xCC => .plain (.done .int3)
  | 0xCD => .plain (.imm8 .int)
  | 0xCE => .plain (.done .into)
  | _ => .plain (.done .iret)

/-- Opcodes D0 to DF (R117, R119, R440). -/
def rowD (op : Byte) : Row :=
  match op.toNat with
  | 0xD0 => .modrm fun reg rm => shiftTail op reg rm (.b (rm8 rm)) .one
  | 0xD1 => .modrm fun reg rm => shiftTail op reg rm (.w (rm16 rm)) .one
  | 0xD2 => .modrm fun reg rm => shiftTail op reg rm (.b (rm8 rm)) .cl
  | 0xD3 => .modrm fun reg rm => shiftTail op reg rm (.w (rm16 rm)) .cl
  | 0xD4 => .plain (.imm8 .aam)
  | 0xD5 => .plain (.imm8 .aad)
  | 0xD6 => .plain (.done (.illegalOp op))
  | 0xD7 => .plain (.done .xlat)
  | _ => .modrm fun reg rm => .done (.esc (op.extractLsb' 0 3) reg (rm16 rm))

/-- Opcodes E0 to EF (R117). -/
def rowE (op : Byte) : Row :=
  match op.toNat with
  | 0xE0 => .plain (.imm8 .loopnz)
  | 0xE1 => .plain (.imm8 .loopz)
  | 0xE2 => .plain (.imm8 .loop)
  | 0xE3 => .plain (.imm8 .jcxz)
  | 0xE4 => .plain (.imm8 (.inImm .byte))
  | 0xE5 => .plain (.imm8 (.inImm .word))
  | 0xE6 => .plain (.imm8 (.outImm .byte))
  | 0xE7 => .plain (.imm8 (.outImm .word))
  | 0xE8 => .plain (.imm16 .callNear)
  | 0xE9 => .plain (.imm16 .jmpNear)
  | 0xEA => .plain (.far .jmpFar)
  | 0xEB => .plain (.imm8 .jmpShort)
  | 0xEC => .plain (.done (.inDx .byte))
  | 0xED => .plain (.done (.inDx .word))
  | 0xEE => .plain (.done (.outDx .byte))
  | _ => .plain (.done (.outDx .word))

/-- Group 3 by the reg field, all but TEST (R120). -/
def group3Instr (op : Byte) (reg : BitVec 3) (rm : RM (BitVec 3)) (x : RmForm) : Instr :=
  match reg.toNat with
  | 2 => .not x | 3 => .neg x | 4 => .mul x | 5 => .imul x | 6 => .div x | 7 => .idiv x
  | _ => .illegalModrm op reg (rm16 rm)

/-- Group 5 by the reg field (R122). -/
def group5Instr (op : Byte) (reg : BitVec 3) (rm : RM (BitVec 3)) : Instr :=
  match reg.toNat, rm with
  | 0, _ => .inc (.rm (.w (rm16 rm)))
  | 1, _ => .dec (.rm (.w (rm16 rm)))
  | 2, _ => .callRm (rm16 rm)
  | 3, .mem m => .callMem m
  | 4, _ => .jmpRm (rm16 rm)
  | 5, .mem m => .jmpMem m
  | 6, _ => .pushRm (rm16 rm)
  | _, _ => .illegalModrm op reg (rm16 rm)

/-- Opcodes F0 to FF (R117, R120 to R122): F0 is the instruction LOCK, F2 and F3 are prefix bytes. -/
def rowF (op : Byte) : Row :=
  match op.toNat with
  | 0xF0 => .plain (.done .lock)
  | 0xF1 => .plain (.done (.illegalOp op))
  | 0xF2 => .plain (.done .repne)
  | 0xF3 => .plain (.done .rep)
  | 0xF4 => .plain (.done .hlt)
  | 0xF5 => .plain (.done .cmc)
  | 0xF6 => .modrm fun reg rm =>
      if reg = 0 then .imm8 fun i => .test (.rmImm (.b (rm8 rm) i)) else .done (group3Instr op reg rm (.b (rm8 rm)))
  | 0xF7 => .modrm fun reg rm =>
      if reg = 0 then .imm16 fun i => .test (.rmImm (.w (rm16 rm) i)) else .done (group3Instr op reg rm (.w (rm16 rm)))
  | 0xF8 => .plain (.done .clc)
  | 0xF9 => .plain (.done .stc)
  | 0xFA => .plain (.done .cli)
  | 0xFB => .plain (.done .sti)
  | 0xFC => .plain (.done .cld)
  | 0xFD => .plain (.done .std)
  | 0xFE => .modrm fun reg rm => .done (match reg.toNat with
      | 0 => .inc (.rm (.b (rm8 rm)))
      | 1 => .dec (.rm (.b (rm8 rm)))
      | _ => .illegalModrm op reg (rm16 rm))
  | _ => .modrm fun reg rm => .done (group5Instr op reg rm)

/-- The row of an opcode byte (R117), with `ext` the parameter `EXT186`. -/
def opcodeRow (ext : Bool) (op : Byte) : Row :=
  let lo := op.extractLsb' 0 3
  match (op.extractLsb' 4 4).toNat with
  | 0 | 1 | 2 | 3 => rowAlu (op.extractLsb' 3 3) lo
  | 4 => .plain (.done (if op.getLsbD 3 then .dec (.r16 (Reg16.ofBits lo)) else .inc (.r16 (Reg16.ofBits lo))))
  | 5 => .plain (.done (if op.getLsbD 3 then .popReg (Reg16.ofBits lo) else .pushReg (Reg16.ofBits lo)))
  | 6 => row6 ext op
  | 7 => .plain (.imm8 (jccInstr (op.extractLsb' 0 4)))
  | 8 => row8 op
  | 9 => row9 op
  | 10 => rowA op
  | 11 =>
    if op.getLsbD 3 then .plain (.imm16 fun i => .movRegImm (.w (Reg16.ofBits lo) i))
    else .plain (.imm8 fun i => .movRegImm (.b (Reg8.ofBits lo) i))
  | 12 => rowC ext op
  | 13 => rowD op
  | 14 => rowE op
  | _ => rowF op

/-- Read the immediate of a format and build the instruction (R114, R115: low byte first, offset before segment). -/
def decodeTail : Tail → List Byte → Except DecodeError (Instr × List Byte)
  | .done i, rest => .ok (i, rest)
  | .imm8 k, b :: rest => .ok (k b, rest)
  | .imm16 k, lo :: hi :: rest => .ok (k (wordOf hi lo), rest)
  | .imm16imm8 k, lo :: hi :: b :: rest => .ok (k (wordOf hi lo) b, rest)
  | .far k, lo :: hi :: slo :: shi :: rest => .ok (k (wordOf hi lo) (wordOf shi slo), rest)
  | _, _ => .error .noImmediate

/-- Decode the first item of a list of bytes: an instruction without prefixes or one prefix byte, with the bytes that
remain (R101, R116). -/
def decodeWith (ext : Bool) : List Byte → Except DecodeError (Instr × List Byte)
  | [] => .error .noOpcode
  | op :: rest =>
    match opcodeRow ext op with
    | .plain t => decodeTail t rest
    | .modrm k =>
      match decodeModrm rest with
      | .error e => .error e
      | .ok (reg, rm, rest) => decodeTail (k reg rm) rest

/-- The decoder of this hardware. -/
def decode (bytes : List Byte) : Except DecodeError (Instr × List Byte) := decodeWith Config.ext186 bytes

/-! ### The encoder -/

/-- The ModRM byte from its three fields. -/
def modrmByte (mode : BitVec 2) (reg rm : BitVec 3) : Byte := mode ++ reg ++ rm

/-- The two bytes of a word in the instruction stream, low byte first (R114). -/
def wordBytes (v : Word) : List Byte := [low8 v, high8 v]

/-- The ModRM byte and displacement of an operand (R107, R108). -/
def encodeModrm (reg : BitVec 3) : RM (BitVec 3) → List Byte
  | .reg n => [modrmByte 3 reg n]
  | .mem (.direct a) => modrmByte 0 reg 6 :: wordBytes a
  | .mem (.based b .no) => [modrmByte 0 reg b.toBits]
  | .mem (.based b (.d8 d)) => [modrmByte 1 reg b.toBits, d]
  | .mem (.based b (.d16 d)) => modrmByte 2 reg b.toBits :: wordBytes d

def encodeRm8 (reg : BitVec 3) (rm : RM8) : List Byte := encodeModrm reg (rm.map Reg8.toBits)
def encodeRm16 (reg : BitVec 3) (rm : RM16) : List Byte := encodeModrm reg (rm.map Reg16.toBits)
def encodeMem (reg : BitVec 3) (m : MemOp) : List Byte := encodeModrm reg (.mem m)

/-- The byte and the word opcode of a one-operand group, then its operand. -/
def encodeRmForm (opB opW : Byte) (reg : BitVec 3) : RmForm → List Byte
  | .b rm => opB :: encodeRm8 reg rm
  | .w rm => opW :: encodeRm16 reg rm

/-- The byte and the word opcode of a two-operand form, then its operands. -/
def encodeRmReg (opB opW : Byte) : RmReg → List Byte
  | .b rm r => opB :: encodeRm8 r.toBits rm
  | .w rm r => opW :: encodeRm16 r.toBits rm

def encodeRmImm (opB opW : Byte) (reg : BitVec 3) : RmImm → List Byte
  | .b rm i => opB :: (encodeRm8 reg rm ++ [i])
  | .w rm i => opW :: (encodeRm16 reg rm ++ wordBytes i)

def encodeAccImm (opB opW : Byte) : AccImm → List Byte
  | .b i => [opB, i]
  | .w i => opW :: wordBytes i

/-- The forms of a two-operand operation with number o (R150). -/
def encodeAlu (o : BitVec 3) : AluForm → List Byte
  | .rmReg x => encodeRmReg (0#2 ++ o ++ 0#3) (0#2 ++ o ++ 1#3) x
  | .regRm x => encodeRmReg (0#2 ++ o ++ 2#3) (0#2 ++ o ++ 3#3) x
  | .accImm x => encodeAccImm (0#2 ++ o ++ 4#3) (0#2 ++ o ++ 5#3) x
  | .rmImm x => encodeRmImm 0x80 0x81 o x
  | .rmImm8s rm i => 0x83 :: (encodeRm16 o rm ++ [i])

/-- The forms of a shift or rotate with group number reg (R330). -/
def encodeShift (reg : BitVec 3) (x : RmForm) : ShiftCount → List Byte
  | .one => encodeRmForm 0xD0 0xD1 reg x
  | .cl => encodeRmForm 0xD2 0xD3 reg x
  | .imm i => encodeRmForm 0xC0 0xC1 reg x ++ [i]

/-- An opcode whose bit 0 is w. -/
def encodeWidth (opB opW : Byte) : Width → Byte
  | .byte => opB
  | .word => opW

/-- The bytes of an instruction (R101, R117 to R124). -/
def encode : Instr → List Byte
  | .add f => encodeAlu 0 f
  | .or f => encodeAlu 1 f
  | .adc f => encodeAlu 2 f
  | .sbb f => encodeAlu 3 f
  | .and f => encodeAlu 4 f
  | .sub f => encodeAlu 5 f
  | .xor f => encodeAlu 6 f
  | .cmp f => encodeAlu 7 f
  | .inc (.r16 r) => [0x08#5 ++ r.toBits]
  | .inc (.rm x) => encodeRmForm 0xFE 0xFF 0 x
  | .dec (.r16 r) => [0x09#5 ++ r.toBits]
  | .dec (.rm x) => encodeRmForm 0xFE 0xFF 1 x
  | .neg x => encodeRmForm 0xF6 0xF7 3 x
  | .not x => encodeRmForm 0xF6 0xF7 2 x
  | .test (.rmReg x) => encodeRmReg 0x84 0x85 x
  | .test (.accImm x) => encodeAccImm 0xA8 0xA9 x
  | .test (.rmImm x) => encodeRmImm 0xF6 0xF7 0 x
  | .movRmReg x => encodeRmReg 0x88 0x89 x
  | .movRegRm x => encodeRmReg 0x8A 0x8B x
  | .movRmImm x => encodeRmImm 0xC6 0xC7 0 x
  | .movRegImm (.b r i) => [0x16#5 ++ r.toBits, i]
  | .movRegImm (.w r i) => (0x17#5 ++ r.toBits) :: wordBytes i
  | .movAccMoffs w a => encodeWidth 0xA0 0xA1 w :: wordBytes a
  | .movMoffsAcc w a => encodeWidth 0xA2 0xA3 w :: wordBytes a
  | .movSregRm sr rm => 0x8E :: encodeRm16 sr.toBits rm
  | .movRmSreg rm sr => 0x8C :: encodeRm16 sr.toBits rm
  | .pushReg r => [0x0A#5 ++ r.toBits]
  | .pushSreg sr => [0#2 ++ sr.toBits ++ 6#3]
  | .pushRm rm => 0xFF :: encodeRm16 6 rm
  | .popReg r => [0x0B#5 ++ r.toBits]
  | .popSreg sr => [0#2 ++ sr.toBits ++ 7#3]
  | .popRm rm => 0x8F :: encodeRm16 0 rm
  | .xchgRmReg x => encodeRmReg 0x86 0x87 x
  | .xchgAx r => [0x12#5 ++ r.toBits]
  | .nop => [0x90]
  | .lea r m => 0x8D :: encodeMem r.toBits m
  | .lds r m => 0xC5 :: encodeMem r.toBits m
  | .les r m => 0xC4 :: encodeMem r.toBits m
  | .xlat => [0xD7]
  | .cbw => [0x98]
  | .cwd => [0x99]
  | .jo d => [0x70, d]
  | .jno d => [0x71, d]
  | .jb d => [0x72, d]
  | .jnb d => [0x73, d]
  | .jz d => [0x74, d]
  | .jnz d => [0x75, d]
  | .jbe d => [0x76, d]
  | .ja d => [0x77, d]
  | .js d => [0x78, d]
  | .jns d => [0x79, d]
  | .jp d => [0x7A, d]
  | .jnp d => [0x7B, d]
  | .jl d => [0x7C, d]
  | .jge d => [0x7D, d]
  | .jle d => [0x7E, d]
  | .jg d => [0x7F, d]
  | .jmpShort d => [0xEB, d]
  | .jmpNear d => 0xE9 :: wordBytes d
  | .jmpFar off seg => 0xEA :: (wordBytes off ++ wordBytes seg)
  | .jmpRm rm => 0xFF :: encodeRm16 4 rm
  | .jmpMem m => 0xFF :: encodeMem 5 m
  | .callNear d => 0xE8 :: wordBytes d
  | .callFar off seg => 0x9A :: (wordBytes off ++ wordBytes seg)
  | .callRm rm => 0xFF :: encodeRm16 2 rm
  | .callMem m => 0xFF :: encodeMem 3 m
  | .ret => [0xC3]
  | .retImm n => 0xC2 :: wordBytes n
  | .retf => [0xCB]
  | .retfImm n => 0xCA :: wordBytes n
  | .loop d => [0xE2, d]
  | .loopz d => [0xE1, d]
  | .loopnz d => [0xE0, d]
  | .jcxz d => [0xE3, d]
  | .movsb => [0xA4]
  | .movsw => [0xA5]
  | .cmpsb => [0xA6]
  | .cmpsw => [0xA7]
  | .stosb => [0xAA]
  | .stosw => [0xAB]
  | .lodsb => [0xAC]
  | .lodsw => [0xAD]
  | .scasb => [0xAE]
  | .scasw => [0xAF]
  | .insb => [0x6C]
  | .insw => [0x6D]
  | .outsb => [0x6E]
  | .outsw => [0x6F]
  | .rol x n => encodeShift 0 x n
  | .ror x n => encodeShift 1 x n
  | .rcl x n => encodeShift 2 x n
  | .rcr x n => encodeShift 3 x n
  | .shl x n => encodeShift 4 x n
  | .shr x n => encodeShift 5 x n
  | .sar x n => encodeShift 7 x n
  | .mul x => encodeRmForm 0xF6 0xF7 4 x
  | .imul x => encodeRmForm 0xF6 0xF7 5 x
  | .imulImm16 r rm i => 0x69 :: (encodeRm16 r.toBits rm ++ wordBytes i)
  | .imulImm8 r rm i => 0x6B :: (encodeRm16 r.toBits rm ++ [i])
  | .div x => encodeRmForm 0xF6 0xF7 6 x
  | .idiv x => encodeRmForm 0xF6 0xF7 7 x
  | .daa => [0x27]
  | .das => [0x2F]
  | .aaa => [0x37]
  | .aas => [0x3F]
  | .aam b => [0xD4, b]
  | .aad b => [0xD5, b]
  | .clc => [0xF8]
  | .stc => [0xF9]
  | .cmc => [0xF5]
  | .cld => [0xFC]
  | .std => [0xFD]
  | .cli => [0xFA]
  | .sti => [0xFB]
  | .lahf => [0x9F]
  | .sahf => [0x9E]
  | .pushf => [0x9C]
  | .popf => [0x9D]
  | .inImm w p => [encodeWidth 0xE4 0xE5 w, p]
  | .inDx w => [encodeWidth 0xEC 0xED w]
  | .outImm w p => [encodeWidth 0xE6 0xE7 w, p]
  | .outDx w => [encodeWidth 0xEE 0xEF w]
  | .int3 => [0xCC]
  | .int n => [0xCD, n]
  | .into => [0xCE]
  | .iret => [0xCF]
  | .hlt => [0xF4]
  | .lock => [0xF0]
  | .wait => [0x9B]
  | .esc sel reg rm => (0x1B#5 ++ sel) :: encodeRm16 reg rm
  | .illegalOp op => [op]
  | .illegalModrm op reg rm => op :: encodeRm16 reg rm
  | .pusha => [0x60]
  | .popa => [0x61]
  | .bound r m => 0x62 :: encodeMem r.toBits m
  | .pushImm16 i => 0x68 :: wordBytes i
  | .pushImm8 i => [0x6A, i]
  | .enter size level => 0xC8 :: (wordBytes size ++ [level])
  | .leave => [0xC9]
  | .segEs => [0x26]
  | .segCs => [0x2E]
  | .segSs => [0x36]
  | .segDs => [0x3E]
  | .repne => [0xF2]
  | .rep => [0xF3]

/-! ### Words as spec/opcode_table.json numbers them -/

/-- The longest instruction without prefixes (R102). -/
def maxInstrBytes : Nat := 6

/-- The first k bytes of a number of 8k bits, the most significant byte first: spec/opcode_table.json writes a row's bits
as `(opcode_byte << 8) | next_byte` (R131), so the opcode is its top byte. notes/assumptions/12. -/
def topFirst : Nat → Nat → List Byte
  | 0, _ => []
  | k + 1, w => BitVec.ofNat 8 (w >>> (8 * k)) :: topFirst k w

/-- The bytes in memory order of an instruction whose table bits are w, followed by zeros up to the longest
instruction. -/
def tableBytes (nbits w : Nat) : List Byte :=
  (topFirst (nbits / 8) w ++ List.replicate maxInstrBytes 0).take maxInstrBytes

/-- The instruction the decoder reads from a word numbered as spec/opcode_table.json numbers it. -/
def decodeTableWord (nbits w : Nat) : Option Instr :=
  match decode (tableBytes nbits w) with
  | .ok (i, _) => some i
  | .error _ => none

end Sys2Proof
end

