-- ==== Sys2Proof/Machine/Fetch.lean ====
section
/-! DEFINITION. Fetching and decoding the next item at CS:IP (spec/20_memory.md R70, spec/30_encoding.md R103, R116). Reads have
no side effect (R63), so the bytes that `Fetch8()` would read one at a time are read as a window of the longest
instruction, and IP advances by the bytes the decoder consumed. -/

namespace Sys2Proof.Machine

/-- The byte that the k-th `Fetch8()` from here reads: IP wraps modulo 2^16, CS does not change (R24, R70). -/
def State.fetchByte (s : State) (k : Nat) : Byte := s.readByte (phys (s.seg .cs) (s.ip + BitVec.ofNat 16 k))

/-- The next n bytes at CS:IP from the k-th on. -/
def State.fetchBytes (s : State) : Nat → Nat → List Byte
  | _, 0 => []
  | k, n + 1 => s.fetchByte k :: s.fetchBytes (k + 1) n

/-- The next six bytes at CS:IP (R102). -/
def State.fetchWindow (s : State) : List Byte := s.fetchBytes 0 maxInstrBytes

/-- The next item at CS:IP, an instruction without prefixes or one prefix byte, and the state with IP after its bytes. -/
def State.fetch (s : State) : Option (Instr × State) :=
  match decode s.fetchWindow with
  | .ok (i, rest) => some (i, s.setIp (s.ip + BitVec.ofNat 16 (maxInstrBytes - rest.length)))
  | .error _ => none

end Sys2Proof.Machine
end

