-- ==== Sys2Proof/Machine/Run.lean ====
section
/-! DEFINITION. One instruction with its prefixes (spec/30_encoding.md R103, R116; steps 3 to 5 of
spec/60_exceptions.md R500). -/

namespace Sys2Proof.Machine

/-- The prefix loop: execute items until one is not a prefix, at most `fuel` of them prefixes (R103, R646).
notes/assumptions/13. -/
def runItems : Nat → State → Host.Outcome State Fault Refusal
  | 0, _ => .fault .endlessPrefixes
  | fuel + 1, s =>
    match s.fetch with
    | none => .refused .truncatedInstruction
    | some (i, t) =>
      if i.isPrefix then
        match exec i t with
        | .next u => runItems fuel u
        | .fault r => .fault r
        | .refused r => .refused r
      else exec i t

/-- The decode state at the start of an instruction (R103). -/
def State.beginDecode (s : State) : State := ((s.setFirstIp s.ip).setSegOverride none).setRepMode .norep

/-- Decode one instruction at CS:IP and execute it (R500, steps 3 to 5). -/
def State.runInstruction (s : State) : Host.Outcome State Fault Refusal := runItems Config.prefixBound s.beginDecode

end Sys2Proof.Machine
end

