-- ==== Sys2Proof/Machine/Slot.lean ====
section
/-! DEFINITION. The slot rule (spec/60_exceptions.md R500 to R506). -/

namespace Sys2Proof.Machine

/-- Step 1b: the trap when the latch is set; then the latch samples TF (R502). -/
def State.takeTrap (s : State) : State :=
  let t := if s.trapLatch then s.intCall 1 else s
  t.setTrapLatch t.flags.tf

/-- Is a hardware interrupt accepted: IF is set and the PIC has an eligible request (R503)? -/
def State.interruptDue (s : State) : Bool := s.flags.ifl && s.pic.eligible

/-- Step 1c: `halt <- false`, `NextIntr()`, `IntCall(v)` (R503). -/
def State.takeInterrupt (s : State) : State :=
  ((s.setHalt false).setPic s.pic.acknowledged).intCall s.pic.vector

/-- Step 6: the instruction counter (R500). -/
def State.retire (s : State) : State := s.setInstrCount (s.instrCount + 1)

/-- A slot after its boundary events: it vectors, or is halted, or executes one instruction (R500, R506). -/
def State.slot (s : State) : Host.Outcome State Fault Refusal :=
  let t := s.takeTrap
  if s.trapLatch then .next t.retire
  else if t.interruptDue then .next t.takeInterrupt.retire
  else if t.halt then .next t.retire
  else match t.runInstruction with
  | .next u => .next u.retire
  | .fault r => .fault r
  | .refused r => .refused r

/-- Store bytes at CS:IP, byte by byte, whatever the read-only map says: what a loader or a test harness does. -/
def State.placeAtIp (s : State) : Nat → List Byte → State
  | _, [] => s
  | k, b :: rest =>
    State.placeAtIp (s.setMem (s.mem.write (phys (s.seg .cs) (s.ip + BitVec.ofNat 16 k)).toNat b)) (k + 1) rest

/-- What would keep the next slot from executing an instruction, taken away: the halt, the trap latch, an acceptable
interrupt request, the events of the coming boundary. None of it is there after reset. notes/assumptions/10. -/
def State.readyToExecute (s : State) : State :=
  let t := (s.setHalt false).setTrapLatch false
  let u := if t.interruptDue then t.setPic { t.pic with irr := t.pic.irr &&& t.pic.imr } else t
  match u.events with
  | [] => u
  | e :: rest => u.setEvents ([] :: e :: rest)

end Sys2Proof.Machine
end

