-- ==== Sys2Proof/Machine/Step.lean ====
section
/-! DEFINITION. The step of the machine: one slot (spec/60_exceptions.md R500), the batch (R505), and the placing of an
instruction where the next slot fetches. -/

namespace Sys2Proof.Machine

/-- One slot: the external events of its boundary, then `Slot()` (R500, R501). -/
def step (s : State) : Host.Outcome State Fault Refusal := s.boundary.slot

/-- `exec86(n)`: up to n slots, ended early when a slot leaves the running flag clear (R505). -/
def exec86 : Nat → State → Host.Outcome State Fault Refusal
  | 0, s => .next s
  | n + 1, s =>
    match step s with
    | .next t => if t.running then exec86 n t else .next t
    | .fault r => .fault r
    | .refused r => .refused r

/-- s with the instruction of a table word stored at CS:IP, where the next slot fetches. notes/assumptions/10, 12. -/
def State.withFetchWord (s : State) (nbits w : Nat) : State := s.readyToExecute.placeAtIp 0 (tableBytes nbits w)

end Sys2Proof.Machine
end

