-- ==== Sys2Proof/Safety.lean ====
section
/-! DEFINITION. The terms that claims use: the invariant of the machine, the arithmetic of results and flags as the spec states
it in numbers, what an instruction may write, and the bytes that lie at CS:IP. The machine itself uses none of this. -/

namespace Sys2Proof.Machine

/-! ### The invariant -/

/-- A DMA channel has transferred at most `reload + 1` bytes (spec/61_devices.md R590, R596). -/
def DmaChannel.bounded (x : DmaChannel) : Prop := x.count ≤ x.reload.toNat + 1

/-- Every channel is bounded. -/
def Dma.bounded (d : Dma) : Prop := d.ch0.bounded ∧ d.ch1.bounded ∧ d.ch2.bounded ∧ d.ch3.bounded

/-- The invariant of the machine: memory and the read-only map keep their canonical form inside the 2^20 bytes of
spec/20_memory.md R60, and no DMA channel has run past its count. -/
structure State.Inv (s : State) : Prop where
  memory : s.mem.wf = true
  readOnly : s.ro.wf = true
  dma : s.dma.bounded

/-! ### Flags in numbers (spec/40_alu.md R151 to R154) -/

/-- The flags by name (spec/10_state.md R25). -/
inductive FlagName where
  | cf | pf | af | zf | sf | tf | ifl | df | ofl
  deriving DecidableEq, Repr

/-- The value of a flag. -/
def Flags.get (f : Flags) : FlagName → Bool
  | .cf => f.cf | .pf => f.pf | .af => f.af | .zf => f.zf | .sf => f.sf
  | .tf => f.tf | .ifl => f.ifl | .df => f.df | .ofl => f.ofl

/-- The low eight bits hold an even number of 1 bits (R151). -/
def evenOnes {w : Nat} (v : BitVec w) : Bool := (List.range 8).countP (fun k => v.getLsbD k) % 2 == 0

/-- An integer fits in w bits as a signed number. -/
def fitsSigned (w : Nat) (n : Int) : Bool := decide (-(2 ^ (w - 1) : Int) ≤ n) && decide (n < (2 ^ (w - 1) : Int))

/-- ZF, SF and PF of a result: it is 0, it is negative as a signed number, its low byte has even parity (R151). -/
def resultFlags {w : Nat} (f : Flags) (res : BitVec w) : Flags :=
  { f with zf := decide (res.toNat = 0), sf := decide (res.toInt < 0), pf := evenOnes res }

/-- The flags of a + b + c: CF when the unsigned sum does not fit, OF when the signed sum does not, AF when the low digits
carry (R152). -/
def sumFlags {w : Nat} (f : Flags) (a b : BitVec w) (c : Nat) : Flags :=
  { resultFlags f (BitVec.ofNat w (a.toNat + b.toNat + c)) with
    cf := decide (2 ^ w ≤ a.toNat + b.toNat + c)
    ofl := !fitsSigned w (a.toInt + b.toInt + c)
    af := decide (16 ≤ a.toNat % 16 + b.toNat % 16 + c) }

/-- The flags of a - b - c: CF when the unsigned difference is negative, OF when the signed difference does not fit, AF when
the low digits borrow (R153). -/
def differenceFlags {w : Nat} (f : Flags) (a b : BitVec w) (c : Nat) : Flags :=
  { resultFlags f (BitVec.ofInt w (a.toInt - b.toInt - c)) with
    cf := decide (a.toNat < b.toNat + c)
    ofl := !fitsSigned w (a.toInt - b.toInt - c)
    af := decide (a.toNat % 16 < b.toNat % 16 + c) }

/-- The flags of a logical result: CF = OF = 0, AF free (R154, U1). -/
def State.logicalFlags {w : Nat} (s : State) (res : BitVec w) : Flags :=
  { resultFlags s.flags res with cf := false, ofl := false, af := s.freeBit 0 }

/-- The flags of a multiply: CF = OF = c, the others free (spec/45_muldiv.md R360, U2). -/
def State.multiplyFlags (s : State) (c : Bool) : Flags :=
  { s.flags with cf := c, ofl := c, sf := s.freeBit 0, zf := s.freeBit 1, af := s.freeBit 2, pf := s.freeBit 3 }

/-- The flags of a completed divide: all six free (R362, U3). -/
def State.divideFlags (s : State) : Flags :=
  { s.flags with
    cf := s.freeBit 0, ofl := s.freeBit 1, sf := s.freeBit 2, zf := s.freeBit 3, af := s.freeBit 4, pf := s.freeBit 5 }

/-- The flags of DAA and DAS: OF free (spec/46_bcd.md R380, U7). -/
def State.decimalFlags (s : State) (al : Byte) (af cf : Bool) : Flags :=
  { resultFlags s.flags al with af := af, cf := cf, ofl := s.freeBit 0 }

/-- The flags of AAA and AAS: OF, SF, ZF, PF free (R382, U5). -/
def State.asciiFlags (s : State) (adjusted : Bool) : Flags :=
  { s.flags with
    af := adjusted, cf := adjusted, ofl := s.freeBit 0, sf := s.freeBit 1, zf := s.freeBit 2, pf := s.freeBit 3 }

/-- The flags of AAM and AAD: OF, AF, CF free (R384, U6). -/
def State.baseFlags (s : State) (al : Byte) : Flags :=
  { resultFlags s.flags al with ofl := s.freeBit 0, af := s.freeBit 1, cf := s.freeBit 2 }

/-- The state with new flags, after n free values have been drawn. -/
def State.flagged (s : State) (f : Flags) (n : Nat) : State := (s.setFlags f).setDraws (s.draws + n)

/-! ### Closed forms of shifts and rotates (spec/44_shift_rotate.md R331 to R337) -/

/-- Result and CF of an operation by n > 0 on v with carry c, in closed form. -/
def ShiftOp.closed {w : Nat} (op : ShiftOp) (n : Nat) (v : BitVec w) (c : Bool) : BitVec w × Bool :=
  match op with
  | .rol => (v.rotateLeft (n % w), (v.rotateLeft (n % w)).getLsbD 0)
  | .ror => (v.rotateRight (n % w), (v.rotateRight (n % w)).msb)
  | .rcl =>
    let x := (BitVec.cons c v).rotateLeft (n % (w + 1))
    (x.setWidth w, x.msb)
  | .rcr =>
    let x := (BitVec.cons c v).rotateRight (n % (w + 1))
    (x.setWidth w, x.msb)
  | .shl => (BitVec.ofNat w (v.toNat * 2 ^ n), decide (n ≤ w) && v.getLsbD (w - n))
  | .shr => (BitVec.ofNat w (v.toNat / 2 ^ n), decide (n ≤ w) && v.getLsbD (n - 1))
  | .sar => (BitVec.ofInt w (v.toInt / 2 ^ n), if n < w then v.getLsbD (n - 1) else v.msb)

/-- OF after a unit shift or rotate, as each rule gives it from the value, the result and the new CF. -/
def ShiftOp.closedOverflow {w : Nat} (op : ShiftOp) (v res : BitVec w) (c cf : Bool) : Bool :=
  match op with
  | .rol | .rcl | .shl => res.msb ^^ cf
  | .ror => res.msb ^^ res.getLsbD (w - 2)
  | .rcr => v.msb ^^ c
  | .shr => v.msb
  | .sar => false

/-- The flags after a shift or rotate by n > 0 (R339): OF free when n > 1; the shifts write SF, ZF, PF and leave AF free. -/
def shiftFlags {w : Nat} (f : Flags) (op : ShiftOp) (n : Nat) (v : BitVec w) (freeOf freeAf : Bool) : Flags :=
  let r := op.closed n v f.cf
  let g : Flags := { f with cf := r.2, ofl := if n = 1 then op.closedOverflow v r.1 f.cf r.2 else freeOf }
  if op = .shl ∨ op = .shr ∨ op = .sar then { resultFlags g r.1 with af := freeAf } else g

/-! ### What an instruction may write -/

/-- What one execution may write: general registers, segment registers, flags, bytes of memory, IP beyond the advance past
the instruction's own bytes, device state. Everything else it leaves unchanged. -/
structure Footprint where
  regs : List Reg16 := []
  segs : List SReg := []
  flags : List FlagName := []
  bytes : List Addr := []
  ip : Bool := false
  devices : Bool := false
  deriving DecidableEq, Repr

/-- Nothing. -/
def Footprint.empty : Footprint := {}

/-- The two bytes of a word. -/
def wordAddrs (a : Addr) : List Addr := [a, a + 1]

/-- The bytes of the next k words pushed. -/
def State.stackAddrs (s : State) (k : Nat) : List Addr :=
  (List.range k).flatMap fun j => wordAddrs (phys (s.seg .ss) (s.reg .sp - BitVec.ofNat 16 (2 * (j + 1))))

/-- The 16-bit register that a byte destination lies in. -/
def Loc.regs8 : Loc Reg8 → List Reg16
  | .reg r => [wordReg r]
  | .mem _ _ => []

/-- The register of a word destination. -/
def Loc.regs16 : Loc Reg16 → List Reg16
  | .reg r => [r]
  | .mem _ _ => []

/-- The byte of a byte destination in memory. -/
def Loc.addrs8 : Loc Reg8 → List Addr
  | .reg _ => []
  | .mem sg off => [phys sg off]

/-- The bytes of a word destination in memory. -/
def Loc.addrs16 : Loc Reg16 → List Addr
  | .reg _ => []
  | .mem sg off => wordAddrs (phys sg off)

/-- The six arithmetic flags. -/
def arithmeticFlags : List FlagName := [.cf, .pf, .af, .zf, .sf, .ofl]

/-- A destination, with flags. -/
def Operands.footprint (x : Operands) (flags : List FlagName) : Footprint :=
  match x with
  | .b d _ _ => { regs := d.regs8, bytes := d.addrs8, flags := flags }
  | .w d _ _ => { regs := d.regs16, bytes := d.addrs16, flags := flags }

/-- A destination of a one-operand group, with flags. -/
def Operand.footprint (x : Operand) (flags : List FlagName) : Footprint :=
  match x with
  | .b d _ => { regs := d.regs8, bytes := d.addrs8, flags := flags }
  | .w d _ => { regs := d.regs16, bytes := d.addrs16, flags := flags }

/-- Vectoring (spec/60_exceptions.md R510): SP, CS, IP, IF, TF and three words of stack. -/
def State.vectorFootprint (s : State) : Footprint :=
  { regs := [.sp], segs := [.cs], flags := [.ifl, .tf], bytes := s.stackAddrs 3, ip := true }

/-- A push of one word. -/
def State.pushFootprint (s : State) : Footprint := { regs := [.sp], bytes := s.stackAddrs 1 }

/-- A string instruction under R301: nothing when it repeats with CX = 0, otherwise its iteration's footprint, CX when it
repeats, and IP when it goes on. -/
def State.stringFootprint (s : State) (x : Footprint) : Footprint :=
  if s.repMode = .norep then x
  else if s.reg .cx = 0 then .empty
  else { x with regs := .cx :: x.regs, ip := true }

/-- The divide error of DIV: the divisor is at most the high half of the dividend (R362). -/
def Operand.divFaults (s : State) : Operand → Bool
  | .b _ v => decide (v.toNat ≤ (s.reg8 .ah).toNat)
  | .w _ v => decide (v.toNat ≤ (s.reg .dx).toNat)

/-- The divide error of IDIV: the divisor is 0 or the quotient does not fit (R363). -/
def Operand.idivFaults (s : State) : Operand → Bool
  | .b _ v => decide (v.toInt = 0) || !fitsSigned 8 ((s.reg .ax).toInt.tdiv v.toInt)
  | .w _ v => decide (v.toInt = 0) || !fitsSigned 16 ((s.reg .dx ++ s.reg .ax : BitVec 32).toInt.tdiv v.toInt)

/-- BOUND's index is outside the bounds (spec/49_ext186.md R463). -/
def State.outOfBounds (s : State) (r : Reg16) (m : MemOp) : Bool :=
  !(decide ((s.farLow m).toInt ≤ (s.reg r).toInt) && decide ((s.reg r).toInt ≤ (s.farHigh m).toInt))

/-- AX, or AX and DX, by the width of the operand. -/
def Operand.accumulator : Operand → List Reg16
  | .b _ _ => [.ax]
  | .w _ _ => [.ax, .dx]

/-- A shift or rotate: nothing when the count is 0 (R330); the rotates write CF and OF only (R339). -/
def State.shiftFootprint (s : State) (x : RmForm) (n : ShiftCount) (flags : List FlagName) : Footprint :=
  if n.value s = 0 then .empty else (x.operand s).footprint flags

/-- What an illegal encoding writes (spec/48_int_misc.md R445). -/
def State.illegalFootprint (s : State) : Footprint :=
  match Config.illegalOpcodePolicy with
  | .raise6 => s.vectorFootprint
  | .nop => .empty

end Sys2Proof.Machine

namespace Sys2Proof

open Machine

/-- What each instruction may write in a state, one line per constructor. -/
def Instr.footprint (i : Instr) (s : State) : Footprint :=
  match i with
  | .add f => (f.operands s).footprint arithmeticFlags
  | .or f => (f.operands s).footprint arithmeticFlags
  | .adc f => (f.operands s).footprint arithmeticFlags
  | .sbb f => (f.operands s).footprint arithmeticFlags
  | .and f => (f.operands s).footprint arithmeticFlags
  | .sub f => (f.operands s).footprint arithmeticFlags
  | .xor f => (f.operands s).footprint arithmeticFlags
  | .cmp _ => { flags := arithmeticFlags }
  | .inc f => (f.operand s).footprint [.pf, .af, .zf, .sf, .ofl]
  | .dec f => (f.operand s).footprint [.pf, .af, .zf, .sf, .ofl]
  | .neg x => (x.operand s).footprint arithmeticFlags
  | .not x => (x.operand s).footprint []
  | .test _ => { flags := arithmeticFlags }
  | .movRmReg x => (RmReg.toRm s x).footprint []
  | .movRegRm x => (RmReg.toReg s x).footprint []
  | .movRmImm x => (x.operands s).footprint []
  | .movRegImm (.b r _) => { regs := [wordReg r] }
  | .movRegImm (.w r _) => { regs := [r] }
  | .movAccMoffs _ _ => { regs := [.ax] }
  | .movMoffsAcc .byte off => { bytes := [phys s.dataSeg off] }
  | .movMoffsAcc .word off => { bytes := wordAddrs (phys s.dataSeg off) }
  | .movSregRm sr _ => { segs := [sr] }
  | .movRmSreg rm _ => { regs := (s.loc rm).regs16, bytes := (s.loc rm).addrs16 }
  | .pushReg _ => s.pushFootprint
  | .pushSreg _ => s.pushFootprint
  | .pushRm _ => s.pushFootprint
  | .popReg r => { regs := [.sp, r] }
  | .popSreg sr => { regs := [.sp], segs := [sr] }
  | .popRm rm => { regs := .sp :: (s.loc rm).regs16, bytes := (s.loc rm).addrs16 }
  | .xchgRmReg (.b rm r) => { regs := wordReg r :: (s.loc rm).regs8, bytes := (s.loc rm).addrs8 }
  | .xchgRmReg (.w rm r) => { regs := r :: (s.loc rm).regs16, bytes := (s.loc rm).addrs16 }
  | .xchgAx r => { regs := [.ax, r] }
  | .nop => .empty
  | .lea r _ => { regs := [r] }
  | .lds r _ => { regs := [r], segs := [.ds] }
  | .les r _ => { regs := [r], segs := [.es] }
  | .xlat => { regs := [.ax] }
  | .cbw => { regs := [.ax] }
  | .cwd => { regs := [.dx] }
  | .jo _ => { ip := true }
  | .jno _ => { ip := true }
  | .jb _ => { ip := true }
  | .jnb _ => { ip := true }
  | .jz _ => { ip := true }
  | .jnz _ => { ip := true }
  | .jbe _ => { ip := true }
  | .ja _ => { ip := true }
  | .js _ => { ip := true }
  | .jns _ => { ip := true }
  | .jp _ => { ip := true }
  | .jnp _ => { ip := true }
  | .jl _ => { ip := true }
  | .jge _ => { ip := true }
  | .jle _ => { ip := true }
  | .jg _ => { ip := true }
  | .jmpShort _ => { ip := true }
  | .jmpNear _ => { ip := true }
  | .jmpFar _ _ => { segs := [.cs], ip := true }
  | .jmpRm _ => { ip := true }
  | .jmpMem _ => { segs := [.cs], ip := true }
  | .callNear _ => { s.pushFootprint with ip := true }
  | .callFar _ _ => { regs := [.sp], segs := [.cs], bytes := s.stackAddrs 2, ip := true }
  | .callRm _ => { s.pushFootprint with ip := true }
  | .callMem _ => { regs := [.sp], segs := [.cs], bytes := s.stackAddrs 2, ip := true }
  | .ret => { regs := [.sp], ip := true }
  | .retImm _ => { regs := [.sp], ip := true }
  | .retf => { regs := [.sp], segs := [.cs], ip := true }
  | .retfImm _ => { regs := [.sp], segs := [.cs], ip := true }
  | .loop _ => { regs := [.cx], ip := true }
  | .loopz _ => { regs := [.cx], ip := true }
  | .loopnz _ => { regs := [.cx], ip := true }
  | .jcxz _ => { ip := true }
  | .movsb => s.stringFootprint { regs := [.si, .di], bytes := [phys (s.seg .es) (s.reg .di)] }
  | .movsw => s.stringFootprint { regs := [.si, .di], bytes := wordAddrs (phys (s.seg .es) (s.reg .di)) }
  | .cmpsb => s.stringFootprint { regs := [.si, .di], flags := arithmeticFlags }
  | .cmpsw => s.stringFootprint { regs := [.si, .di], flags := arithmeticFlags }
  | .stosb => s.stringFootprint { regs := [.di], bytes := [phys (s.seg .es) (s.reg .di)] }
  | .stosw => s.stringFootprint { regs := [.di], bytes := wordAddrs (phys (s.seg .es) (s.reg .di)) }
  | .lodsb => s.stringFootprint { regs := [.ax, .si] }
  | .lodsw => s.stringFootprint { regs := [.ax, .si] }
  | .scasb => s.stringFootprint { regs := [.di], flags := arithmeticFlags }
  | .scasw => s.stringFootprint { regs := [.di], flags := arithmeticFlags }
  | .insb => s.stringFootprint { regs := [.di], bytes := [phys (s.seg .es) (s.reg .di)], devices := true }
  | .insw => s.stringFootprint { regs := [.di], bytes := wordAddrs (phys (s.seg .es) (s.reg .di)), devices := true }
  | .outsb => s.stringFootprint { regs := [.si], devices := true }
  | .outsw => s.stringFootprint { regs := [.si], devices := true }
  | .rol x n => s.shiftFootprint x n [.cf, .ofl]
  | .ror x n => s.shiftFootprint x n [.cf, .ofl]
  | .rcl x n => s.shiftFootprint x n [.cf, .ofl]
  | .rcr x n => s.shiftFootprint x n [.cf, .ofl]
  | .shl x n => s.shiftFootprint x n arithmeticFlags
  | .shr x n => s.shiftFootprint x n arithmeticFlags
  | .sar x n => s.shiftFootprint x n arithmeticFlags
  | .mul x => { regs := (x.operand s).accumulator, flags := arithmeticFlags }
  | .imul x => { regs := (x.operand s).accumulator, flags := arithmeticFlags }
  | .imulImm16 r _ _ => { regs := [r], flags := arithmeticFlags }
  | .imulImm8 r _ _ => { regs := [r], flags := arithmeticFlags }
  | .div x =>
    if (x.operand s).divFaults s then s.vectorFootprint
    else { regs := (x.operand s).accumulator, flags := arithmeticFlags }
  | .idiv x =>
    if (x.operand s).idivFaults s then s.vectorFootprint
    else { regs := (x.operand s).accumulator, flags := arithmeticFlags }
  | .daa => { regs := [.ax], flags := arithmeticFlags }
  | .das => { regs := [.ax], flags := arithmeticFlags }
  | .aaa => { regs := [.ax], flags := arithmeticFlags }
  | .aas => { regs := [.ax], flags := arithmeticFlags }
  | .aam base => if base = 0 then s.vectorFootprint else { regs := [.ax], flags := arithmeticFlags }
  | .aad _ => { regs := [.ax], flags := arithmeticFlags }
  | .clc => { flags := [.cf] }
  | .stc => { flags := [.cf] }
  | .cmc => { flags := [.cf] }
  | .cld => { flags := [.df] }
  | .std => { flags := [.df] }
  | .cli => { flags := [.ifl] }
  | .sti => { flags := [.ifl] }
  | .lahf => { regs := [.ax] }
  | .sahf => { flags := [.cf, .pf, .af, .zf, .sf] }
  | .pushf => s.pushFootprint
  | .popf => { regs := [.sp], flags := [.cf, .pf, .af, .zf, .sf, .tf, .ifl, .df, .ofl] }
  | .inImm _ _ => { regs := [.ax], devices := true }
  | .inDx _ => { regs := [.ax], devices := true }
  | .outImm _ _ => { devices := true }
  | .outDx _ => { devices := true }
  | .int3 => s.vectorFootprint
  | .int _ => s.vectorFootprint
  | .into => if s.flags.ofl then s.vectorFootprint else .empty
  | .iret =>
    { regs := [.sp], segs := [.cs], flags := [.cf, .pf, .af, .zf, .sf, .tf, .ifl, .df, .ofl], ip := true }
  | .hlt => .empty
  | .lock => .empty
  | .wait => .empty
  | .esc _ _ _ => .empty
  | .illegalOp _ => s.illegalFootprint
  | .illegalModrm _ _ _ => s.illegalFootprint
  | .pusha => { regs := [.sp], bytes := s.stackAddrs 8 }
  | .popa => { regs := [.ax, .cx, .dx, .bx, .sp, .bp, .si, .di] }
  | .bound r m => if s.outOfBounds r m then s.vectorFootprint else .empty
  | .pushImm16 _ => s.pushFootprint
  | .pushImm8 _ => s.pushFootprint
  | .enter _ level => { regs := [.sp, .bp], bytes := s.stackAddrs ((level &&& 0x1F).toNat + 1) }
  | .leave => { regs := [.sp, .bp] }
  | .segEs => .empty
  | .segCs => .empty
  | .segSs => .empty
  | .segDs => .empty
  | .repne => .empty
  | .rep => .empty

end Sys2Proof

namespace Sys2Proof.Machine

/-! ### Addresses in numbers -/

/-- The displacement of a memory operand as an integer: a byte is signed, a word may be read unsigned (R108). -/
def dispInt : Disp → Int
  | .no => 0
  | .d8 d => d.toInt
  | .d16 d => d.toNat

/-- The sum of base registers of an effective-address formula, as a number (R108). -/
def State.eaSum (s : State) : EaBase → Nat
  | .bxSi => (s.reg .bx).toNat + (s.reg .si).toNat
  | .bxDi => (s.reg .bx).toNat + (s.reg .di).toNat
  | .bpSi => (s.reg .bp).toNat + (s.reg .si).toNat
  | .bpDi => (s.reg .bp).toNat + (s.reg .di).toNat
  | .si => (s.reg .si).toNat
  | .di => (s.reg .di).toNat
  | .bp => (s.reg .bp).toNat
  | .bx => (s.reg .bx).toNat

/-- The address that a jump of d bytes reaches: IP plus d, modulo 2^16 (R268). -/
def State.target (s : State) (d : Int) : Word := BitVec.ofInt 16 (s.ip.toNat + d)

/-- None of these bytes is read-only. -/
def State.writable (s : State) (l : List Addr) : Prop := ∀ a ∈ l, s.ro.has a.toNat = false

/-! ### When a slot executes (R500) -/

/-- After the events of its boundary the slot neither vectors nor is halted, so it decodes and executes one
instruction. -/
structure State.Executes (s : State) : Prop where
  noTrap : s.boundary.trapLatch = false
  noInterrupt : s.boundary.interruptDue = false
  running : s.boundary.halt = false

/-- The state in which the instruction of a slot executes: the latch sampled, the decode state of the given prefixes,
IP after n bytes (R103, R502). -/
def State.decoded (s : State) (sg : Option SReg) (rep : RepMode) (n : Nat) : State :=
  { s.boundary with
    trapLatch := s.boundary.flags.tf, firstIp := s.boundary.ip, segOverride := sg, repMode := rep,
    ip := s.boundary.ip + BitVec.ofNat 16 n }

/-- The outcome of a slot from the outcome of its instruction: the counter goes up (R500, step 6). -/
def retired : Host.Outcome State Fault Refusal → Host.Outcome State Fault Refusal
  | .next u => .next { u with instrCount := u.instrCount + 1 }
  | .fault r => .fault r
  | .refused r => .refused r

/-! ### Bytes at CS:IP, prefixes -/

/-- The bytes of a list lie at CS:IP, IP wrapping modulo 2^16. -/
def State.bytesAtIp (s : State) (l : List Byte) : Prop := ∀ k b, l[k]? = some b → s.fetchByte k = b

/-- The six prefix bytes (spec/30_encoding.md R104). -/
def prefixBytes : List Byte := [0x26, 0x2E, 0x36, 0x3E, 0xF2, 0xF3]

/-- The segment override that a list of prefixes leaves: the last one wins (R103). -/
def lastOverride : List Instr → Option SReg
  | [] => none
  | p :: rest =>
    (lastOverride rest).or (match p with
      | .segEs => some .es | .segCs => some .cs | .segSs => some .ss | .segDs => some .ds
      | _ => none)

/-- The repeat mode that a list of prefixes leaves: the last one wins (R103). -/
def lastRepeat : List Instr → RepMode
  | [] => .norep
  | p :: rest =>
    match lastRepeat rest with
    | .norep => (match p with | .rep => .repe | .repne => .repne | _ => .norep)
    | r => r

end Sys2Proof.Machine
end

