-- ==== Sys2Proof/Certificates/Slice0/Obligations.lean ====
section
/-! DEFINITION. The statements for the provers. OBLIGATIONS.json lists them. -/

open Sys2Proof Sys2Proof.Machine

/-! ### Reset and loading -/

/-- spec/10_state.md R37, spec/61_devices.md R551, R571, R591, spec/70_reset_and_hazards.md R632: the machine at
power-on, whatever the general registers, memory and read-only map are, and `State.reset` is such a state; a later
`reset()` gives CPU state its reset values and leaves memory, the read-only map, the port table and the devices alone.
All but CS, IP and halt is decision D9 of the spec. -/
def Obligations.ResetStates : Prop :=
  ((∀ g m r, let s := State.powerOn g m r
     s.regs = g ∧ s.mem = m ∧ s.ro = r ∧
     s.seg .cs = 0xFFFF ∧ s.seg .ds = 0 ∧ s.seg .es = 0 ∧ s.seg .ss = 0 ∧ s.ip = 0 ∧ s.halt = false ∧
     s.trapLatch = false ∧ (∀ f, s.flags.get f = false) ∧ s.flags.word = 0xF002 ∧ phys (s.seg .cs) s.ip = 0xFFFF0 ∧
     s.pic.irr = 0 ∧ s.pic.isr = 0 ∧ s.pic.imr = 0 ∧ s.pic.icw1 = 0 ∧ s.pic.icw2 = 0 ∧ s.pic.icw3 = 0 ∧
     s.pic.icw4 = 0 ∧ s.pic.icwstep = .idle ∧ s.pic.readIsr = false ∧ s.pic.catchup = 0 ∧
     (∀ c, (s.pit.get c).reload = 0 ∧ (s.pit.get c).eff = 65536 ∧ (s.pit.get c).counter = 0 ∧
       (s.pit.get c).access = .latch ∧ (s.pit.get c).flipHigh = false ∧ (s.pit.get c).active = false) ∧
     (∀ c, (s.dma.get c).page = 0 ∧ (s.dma.get c).address = 0 ∧ (s.dma.get c).reload = 0 ∧ (s.dma.get c).count = 0 ∧
       (s.dma.get c).descend = false ∧ (s.dma.get c).autoinit = false ∧ (s.dma.get c).writemode = false ∧
       (s.dma.get c).masked = true) ∧ s.dma.flipHigh = false) ∧
   ∃ g m r, State.reset = State.powerOn g m r) ∧
  (∀ s : State, let t := s.hostReset
     t.seg .cs = 0xFFFF ∧ t.seg .ds = 0 ∧ t.seg .es = 0 ∧ t.seg .ss = 0 ∧ t.ip = 0 ∧ t.halt = false ∧
     t.trapLatch = false ∧ (∀ f, t.flags.get f = false) ∧
     t.mem = s.mem ∧ t.ro = s.ro ∧ t.ports = s.ports ∧ t.pic = s.pic ∧ t.pit = s.pit ∧ t.dma = s.dma)

/-- The invariant holds at `State.reset`, and at power-on with any canonical memory and read-only map. -/
def Obligations.ResetMeetsInvariant : Prop :=
  State.reset.Inv ∧ ∀ g m r, m.wf = true → r.wf = true → (State.powerOn g m r).Inv

/-- Every step keeps the invariant: memory and the read-only map keep their canonical form in 2^20 bytes, and no DMA channel
runs past its count. -/
def Obligations.StepKeepsInvariant : Prop :=
  ∀ s t : State, s.Inv → step s = .next t → t.Inv

/-- spec/20_memory.md R64, spec/61_devices.md R610: no instruction, no vectoring and no external event changes the
read-only map, a byte it protects, or the port table. That no step changes the port table is read from R610,
"populated once at device-init". -/
def Obligations.StepKeepsReadOnlyBytesAndPorts : Prop :=
  ∀ s t : State, step s = .next t →
    t.ro = s.ro ∧ t.ports = s.ports ∧ ∀ a : Addr, s.ro.has a.toNat = true → t.readByte a = s.readByte a

/-- spec/70_reset_and_hazards.md R634: `loadImage` stores the bytes of an image at consecutive addresses, marks them
read-only when the flag is set, and changes nothing else; the start of the machine loads the images in their order
over memory and registers that are free, and is refused when no image holds a byte. Loading wraps at the top of memory
and ignores the map: the model's choice, notes/assumptions/10; what counts as no image, notes/assumptions/29. -/
def Obligations.LoadImageStores : Prop :=
  (∀ (s : State) (a : Addr) (readOnly : Bool) (image : List Byte), s.mem.wf = true → s.ro.wf = true →
    image.length ≤ Config.memSize →
    let t := s.loadImage a readOnly image
    (∀ k b, image[k]? = some b →
      t.readByte (a + BitVec.ofNat 20 k) = b ∧
      t.ro.has (a + BitVec.ofNat 20 k).toNat = (readOnly || s.ro.has (a + BitVec.ofNat 20 k).toNat)) ∧
    (∀ x : Addr, image.length ≤ (x - a).toNat →
      t.readByte x = s.readByte x ∧ t.ro.has x.toNat = s.ro.has x.toNat) ∧
    t.mem.wf = true ∧ t.ro.wf = true ∧
    { t with mem := s.mem, ro := s.ro } = s) ∧
  (∀ (g : Regs) (m : Memory) (images : List Image),
    ((∀ x ∈ images, x.bytes = []) → State.boot g m images = .refused .noImage) ∧
    ((∃ x ∈ images, x.bytes ≠ []) →
      let t := images.foldl (fun u x => u.loadImage x.addr x.readOnly x.bytes) (State.powerOn g m [])
      State.boot g m images = .next t ∧ { t with mem := m, ro := [] } = State.powerOn g m [] ∧ t.ro.wf = true ∧
      (m.wf = true → t.mem.wf = true)))

/-! ### Encoding -/

/-- Decoding the bytes of a well-formed instruction, whatever follows them, gives the instruction and what follows. -/
def Obligations.DecodeOfEncode : Prop :=
  ∀ (ext : Bool) (i : Instr) (rest : List Byte), i.wellFormedWith ext = true →
    decodeWith ext (encode i ++ rest) = .ok (i, rest)

/-- spec/30_encoding.md R102, R116: six bytes always hold an item; the decoder reads a well-formed one and consumes
one to six bytes. Well-formedness is the model's term. -/
def Obligations.DecodingIsTotal : Prop :=
  ∀ (ext : Bool) (bytes : List Byte), maxInstrBytes ≤ bytes.length →
    ∃ i n, 1 ≤ n ∧ n ≤ maxInstrBytes ∧ decodeWith ext bytes = .ok (i, bytes.drop n) ∧ i.wellFormedWith ext = true

/-- spec/30_encoding.md R130: its twelve encoding examples. The spec derives them from R101 to R124. -/
def Obligations.EncodingExamples : Prop :=
  decode [0xB0, 0x05] = .ok (.movRegImm (.b .al 5), []) ∧
  decode [0xF6, 0xF3] = .ok (.div (.b (.reg .bl)), []) ∧
  decode [0x01, 0xD8] = .ok (.add (.rmReg (.w (.reg .ax) .bx)), []) ∧
  decode [0x8B, 0x46, 0xFE] = .ok (.movRegRm (.w (.mem (.based .bp (.d8 0xFE))) .ax), []) ∧
  decode [0x8B, 0x1E, 0x34, 0x12] = .ok (.movRegRm (.w (.mem (.direct 0x1234)) .bx), []) ∧
  (decode [0x26, 0x88, 0x05] = .ok (.segEs, [0x88, 0x05]) ∧
    decode [0x88, 0x05] = .ok (.movRmReg (.b (.mem (.based .di .no)) .al), [])) ∧
  decode [0x83, 0xC3, 0xFF] = .ok (.add (.rmImm8s (.reg .bx) 0xFF), []) ∧
  decode [0x81, 0x7C, 0x02, 0x00, 0x80] = .ok (.cmp (.rmImm (.w (.mem (.based .si (.d8 2))) 0x8000)), []) ∧
  decode [0xEA, 0x00, 0x00, 0xFF, 0xFF] = .ok (.jmpFar 0 0xFFFF, []) ∧
  (decode [0xF3, 0xA4] = .ok (.rep, [0xA4]) ∧ decode [0xA4] = .ok (.movsb, [])) ∧
  decode [0xD1, 0xE0] = .ok (.shl (.w (.reg .ax)) .one, []) ∧
  decode [0x75, 0xFB] = .ok (.jnz 0xFB, []) ∧
  defaultSeg (.based .bp (.d8 0xFE)) = .ss ∧ defaultSeg (.direct 0x1234) = .ds ∧ sext16 0xFF = 0xFFFF ∧
  sext16 0xFB = BitVec.ofInt 16 (-5)

/-- spec/40_alu.md R150, spec/30_encoding.md R125: the encodings of the eight two-operand operations with the operands
each form reads, and the illegal encodings with the bytes they consume. The illegal set and the bytes consumed are
decision D11. -/
def Obligations.OpcodeRows : Prop :=
  (∀ (ext : Bool) (o : BitVec 3) (bytes rest : List Byte) (reg : BitVec 3) (rm : RM (BitVec 3)),
    decodeModrm bytes = .ok (reg, rm, rest) →
    decodeWith ext ((0#2 ++ o ++ 0#3) :: bytes) = .ok (aluInstr o (.rmReg (.b (rm8 rm) (Reg8.ofBits reg))), rest) ∧
    decodeWith ext ((0#2 ++ o ++ 1#3) :: bytes) = .ok (aluInstr o (.rmReg (.w (rm16 rm) (Reg16.ofBits reg))), rest) ∧
    decodeWith ext ((0#2 ++ o ++ 2#3) :: bytes) = .ok (aluInstr o (.regRm (.b (rm8 rm) (Reg8.ofBits reg))), rest) ∧
    decodeWith ext ((0#2 ++ o ++ 3#3) :: bytes) = .ok (aluInstr o (.regRm (.w (rm16 rm) (Reg16.ofBits reg))), rest)) ∧
  (∀ (ext : Bool) (o : BitVec 3) (lo hi : Byte) (rest : List Byte),
    decodeWith ext ((0#2 ++ o ++ 4#3) :: lo :: rest) = .ok (aluInstr o (.accImm (.b lo)), rest) ∧
    decodeWith ext ((0#2 ++ o ++ 5#3) :: lo :: hi :: rest) = .ok (aluInstr o (.accImm (.w (hi ++ lo))), rest)) ∧
  (∀ (ext : Bool) (bytes rest : List Byte) (o : BitVec 3) (rm : RM (BitVec 3)) (lo hi : Byte),
    (decodeModrm bytes = .ok (o, rm, lo :: rest) →
      decodeWith ext (0x80 :: bytes) = .ok (aluInstr o (.rmImm (.b (rm8 rm) lo)), rest) ∧
      decodeWith ext (0x82 :: bytes) = .ok (aluInstr o (.rmImm (.b (rm8 rm) lo)), rest) ∧
      decodeWith ext (0x83 :: bytes) = .ok (aluInstr o (.rmImm8s (rm16 rm) lo), rest)) ∧
    (decodeModrm bytes = .ok (o, rm, lo :: hi :: rest) →
      decodeWith ext (0x81 :: bytes) = .ok (aluInstr o (.rmImm (.w (rm16 rm) (hi ++ lo))), rest))) ∧
  (∀ (s : State) (x8 : RM8) (x16 : RM16) (r8 : Reg8) (r16 : Reg16) (i8 : Byte) (i16 : Word),
    AluForm.operands s (.rmReg (.b x8 r8)) = .b (s.loc x8) (s.read8 (s.loc x8)) (s.reg8 r8) ∧
    AluForm.operands s (.rmReg (.w x16 r16)) = .w (s.loc x16) (s.read16 (s.loc x16)) (s.reg r16) ∧
    AluForm.operands s (.regRm (.b x8 r8)) = .b (.reg r8) (s.reg8 r8) (s.read8 (s.loc x8)) ∧
    AluForm.operands s (.regRm (.w x16 r16)) = .w (.reg r16) (s.reg r16) (s.read16 (s.loc x16)) ∧
    AluForm.operands s (.accImm (.b i8)) = .b (.reg .al) (s.reg8 .al) i8 ∧
    AluForm.operands s (.accImm (.w i16)) = .w (.reg .ax) (s.reg .ax) i16 ∧
    AluForm.operands s (.rmImm (.b x8 i8)) = .b (s.loc x8) (s.read8 (s.loc x8)) i8 ∧
    AluForm.operands s (.rmImm (.w x16 i16)) = .w (s.loc x16) (s.read16 (s.loc x16)) i16 ∧
    AluForm.operands s (.rmImm8s x16 i8) = .w (s.loc x16) (s.read16 (s.loc x16)) (i8.signExtend 16)) ∧
  (∀ (ext : Bool) (op : Byte) (rest : List Byte), illegalFirstByte ext op = true →
    decodeWith ext (op :: rest) = .ok (.illegalOp op, rest)) ∧
  (∀ (ext : Bool) (op : Byte) (bytes rest : List Byte) (reg : BitVec 3) (rm : RM (BitVec 3)),
    decodeModrm bytes = .ok (reg, rm, rest) → illegalSecondByte ext op reg rm.isReg = true →
    decodeWith ext (op :: bytes) = .ok (.illegalModrm op reg (rm16 rm), rest))

/-! ### The slot -/

/-- spec/60_exceptions.md R500: when a slot executes and the bytes at CS:IP are those of an instruction without prefixes, the
slot is that instruction's meaning, in the state with IP after its bytes, and then the counter goes up. -/
def Obligations.StepRunsDecodedInstruction : Prop :=
  ∀ (s : State) (i : Instr), s.Executes → i.wellFormed = true → i.isPrefix = false → s.boundary.bytesAtIp (encode i) →
    step s = retired (exec i (s.decoded none .norep (encode i).length))

/-- spec/30_encoding.md R103, R104: prefixes, fewer than 65 536 of them, set the segment override and the repeat mode,
the last of each kind winning, and the instruction after them executes in the same slot. That the last of each kind
wins is decision D28. -/
def Obligations.PrefixesThenInstruction : Prop :=
  ∀ (s : State) (ps : List Instr) (i : Instr), s.Executes → (∀ p ∈ ps, p.isPrefix = true) →
    ps.length < Config.prefixBound → i.wellFormed = true → i.isPrefix = false →
    s.boundary.bytesAtIp (ps.flatMap encode ++ encode i) →
    step s = retired (exec i (s.decoded (lastOverride ps) (lastRepeat ps) (ps.length + (encode i).length)))

/-- spec/70_reset_and_hazards.md R646: the slot gets stuck exactly when it executes and every byte reachable through
CS is a prefix byte; it is never refused. R646 is the spec's own derivation; the fault is notes/assumptions/13. -/
def Obligations.EndlessPrefixesStop : Prop :=
  (∀ s : State, step s = .fault .endlessPrefixes ↔
    s.Executes ∧ ∀ off : Word, s.boundary.readByte (phys (s.boundary.seg .cs) off) ∈ prefixBytes) ∧
  (∀ (s : State) (r : Refusal), step s ≠ .refused r)

/-- spec/60_exceptions.md R502 to R506: a slot with the latch set vectors 1; otherwise, with IF set and an eligible
request, it wakes, acknowledges and vectors; otherwise a halted slot does nothing; the latch samples TF in every case
and the counter goes up. The order and the latch are decisions D6, D7 and D14. -/
def Obligations.SlotOrder : Prop :=
  ∀ s : State, let b := s.boundary
    (b.trapLatch = true →
      step s = .next { b.intCall 1 with trapLatch := false, instrCount := b.instrCount + 1 }) ∧
    (b.trapLatch = false → b.flags.ifl = true → b.pic.eligible = true →
      step s = .next { State.intCall { b with halt := false, pic := b.pic.acknowledged } b.pic.vector with
        trapLatch := b.flags.tf, instrCount := b.instrCount + 1 }) ∧
    (b.trapLatch = false → (b.flags.ifl = false ∨ b.pic.eligible = false) → b.halt = true →
      step s = .next { b with trapLatch := b.flags.tf, instrCount := b.instrCount + 1 })

/-- spec/70_reset_and_hazards.md R645, R647: a halted machine with IF = 0 stays halted with IF = 0 at every step,
whatever events arrive, and without an armed trap its registers, flags and memory do not change. That the trap leaves
the halt set is decision D27. -/
def Obligations.HaltWithInterruptsOffHangs : Prop :=
  ∀ s : State, s.halt = true → s.flags.ifl = false →
    ∃ t, step s = .next t ∧ t.halt = true ∧ t.flags.ifl = false ∧
      (s.trapLatch = false → t.regs = s.regs ∧ t.segs = s.segs ∧ t.ip = s.ip ∧ t.flags = s.flags ∧ t.mem = s.mem)

/-- spec/60_exceptions.md R505: a batch of a slots and then a batch of b slots is a batch of a + b slots, unless the
first ended early because the running flag was clear. What exec86 does is R505; the equation is derived. -/
def Obligations.BatchesJoin : Prop :=
  ∀ (a b : Nat) (s t : State), exec86 a s = .next t →
    (a = 0 ∨ t.running = true → exec86 (a + b) s = exec86 b t) ∧
    (0 < a → t.running = false → exec86 (a + b) s = .next t)

/-- Every instruction has a next state in every state: no form, no operand and no mode makes one stop. Derived: the
spec gives every encoding an effect (spec/30_encoding.md R125, spec/48_int_misc.md R445). -/
def Obligations.ExecutionAlwaysCompletes : Prop :=
  ∀ (i : Instr) (s : State), ∃ t, exec i s = .next t ∧ t.instrCount = s.instrCount ∧ s.draws ≤ t.draws

/-! ### Registers, flags, memory -/

/-- spec/10_state.md R26 to R28: the places of the nine flags in the FLAGS word, its fixed bits, and what a written word
leaves. -/
def Obligations.FlagsWordLayout : Prop :=
  (∀ f : Flags, f.word.toNat = 0xF002 + f.cf.toNat + 4 * f.pf.toNat + 16 * f.af.toNat + 64 * f.zf.toNat
    + 128 * f.sf.toNat + 256 * f.tf.toNat + 512 * f.ifl.toNat + 1024 * f.df.toNat + 2048 * f.ofl.toNat) ∧
  Flags.clear.word = 0xF002 ∧
  (∀ v : Word, let f := Flags.ofWord v
    f.cf = v.getLsbD 0 ∧ f.pf = v.getLsbD 2 ∧ f.af = v.getLsbD 4 ∧ f.zf = v.getLsbD 6 ∧ f.sf = v.getLsbD 7 ∧
    f.tf = v.getLsbD 8 ∧ f.ifl = v.getLsbD 9 ∧ f.df = v.getLsbD 10 ∧ f.ofl = v.getLsbD 11) ∧
  (∀ f : Flags, Flags.ofWord f.word = f) ∧
  (∀ v : Word, (Flags.ofWord v).word = (v &&& 0x0FD5) ||| 0xF002)

/-- spec/10_state.md R20, R21, R23: a write to a register changes that register only, a write to a byte half changes its eight
bits only, a word register is its high half followed by its low half, and the numbers of the halves. -/
def Obligations.RegisterLaws : Prop :=
  (∀ (s : State) (r q : Reg16) (v : Word), (s.setReg r v).reg q = if q = r then v else s.reg q) ∧
  (∀ (s : State) (r q : Reg8) (v : Byte), (s.setReg8 r v).reg8 q = if q = r then v else s.reg8 q) ∧
  (∀ (s : State) (r : Reg8) (q : Reg16) (v : Byte), q ≠ wordReg r → (s.setReg8 r v).reg q = s.reg q) ∧
  (∀ s : State, s.reg .ax = s.reg8 .ah ++ s.reg8 .al ∧ s.reg .cx = s.reg8 .ch ++ s.reg8 .cl ∧
    s.reg .dx = s.reg8 .dh ++ s.reg8 .dl ∧ s.reg .bx = s.reg8 .bh ++ s.reg8 .bl) ∧
  (∀ (s : State) (n : BitVec 3),
    (n.toNat < 4 → s.reg8 (Reg8.ofBits n) = (s.reg (Reg16.ofBits n)).extractLsb' 0 8) ∧
    (4 ≤ n.toNat → s.reg8 (Reg8.ofBits n) = (s.reg (Reg16.ofBits (n - 4))).extractLsb' 8 8)) ∧
  (∀ (s : State) (r q : SReg) (v : Word), (s.setSeg r v).seg q = if q = r then v else s.seg q)

/-- spec/20_memory.md R61, R68, spec/30_encoding.md R108, R113: effective addresses, the segment of an operand and
physical addresses, in numbers. R68 is decision D4. -/
def Obligations.Addresses : Prop :=
  (∀ sg off : Word, (phys sg off).toNat = (sg.toNat * 16 + off.toNat) % 2 ^ 20) ∧
  phys 0xFFFF 0x0010 = 0x00000 ∧ phys 0xFFFF 0xFFFF = 0x0FFEF ∧
  (∀ (s : State) (sg : Word),
    s.readSeg16 sg 0xFFFF = s.readByte (phys sg 0xFFFF + 1) ++ s.readByte (phys sg 0xFFFF) ∧
    ∀ v : Word, s.writeSeg16 sg 0xFFFF v
      = (s.writeByte (phys sg 0xFFFF) (v.extractLsb' 0 8)).writeByte (phys sg 0xFFFF + 1) (v.extractLsb' 8 8)) ∧
  (∀ (s : State) (b : EaBase) (d : Disp), s.ea (.based b d) = BitVec.ofInt 16 (s.eaSum b + dispInt d)) ∧
  (∀ (s : State) (a : Word), s.ea (.direct a) = a) ∧
  (∀ (s : State) (m : MemOp) (r : SReg), s.segOverride = some r → s.memSeg m = s.seg r) ∧
  (∀ (s : State) (b : EaBase) (d : Disp), s.segOverride = none →
    s.memSeg (.based b d) = if b = .bpSi ∨ b = .bpDi ∨ b = .bp then s.seg .ss else s.seg .ds) ∧
  (∀ (s : State) (a : Word), s.segOverride = none → s.memSeg (.direct a) = s.seg .ds)

/-- spec/20_memory.md R63 to R66: a byte write changes its byte only, does nothing at a read-only address, and is
notified in the video window; nothing but memory and the output events changes. A word is its low byte at the address
and its high byte at the next one modulo 2^20; each byte of a written word is subject to the read-only map by itself.
R63 to R66 rest on decisions D3, D25 and D26. -/
def Obligations.MemoryLaws : Prop :=
  (∀ (s : State) (a b : Addr) (v : Byte), s.mem.wf = true →
     (s.ro.has a.toNat = true → s.writeByte a v = s) ∧
     (s.ro.has a.toNat = false →
       (s.writeByte a v).readByte b = (if b = a then v else s.readByte b) ∧
       (s.writeByte a v).outputs =
         (if 0xA0000 ≤ a.toNat ∧ a.toNat ≤ 0xBFFFF then .display a v :: s.outputs else s.outputs)) ∧
     { s.writeByte a v with mem := s.mem, outputs := s.outputs } = s ∧
     (s.writeByte a v).mem.wf = true) ∧
  ((∀ (s : State) (a : Addr), s.readWord a = s.readByte (a + 1) ++ s.readByte a ∧ ∀ v : Word,
    s.writeWord a v = (s.writeByte a (v.extractLsb' 0 8)).writeByte (a + 1) (v.extractLsb' 8 8)) ∧
   (∀ (s : State) (a b : Addr) (v : Word), s.mem.wf = true →
     (s.writeWord a v).readByte b =
       if b = a ∧ s.ro.has a.toNat = false then v.extractLsb' 0 8
       else if b = a + 1 ∧ s.ro.has (a + 1).toNat = false then v.extractLsb' 8 8
       else s.readByte b) ∧
   (∀ (s : State) (a : Addr) (v : Word), s.mem.wf = true → s.writable [a, a + 1] → (s.writeWord a v).readWord a = v))

/-- spec/20_memory.md R71: Push16 and Pop16; what is pushed on a stack that is not read-only is popped again. -/
def Obligations.StackLaws : Prop :=
  (∀ (s : State) (v : Word),
    s.push16 v = (s.setReg .sp (s.reg .sp - 2)).writeWord (phys (s.seg .ss) (s.reg .sp - 2)) v) ∧
  (∀ s : State, s.top = s.readWord (phys (s.seg .ss) (s.reg .sp)) ∧ s.popped = s.setReg .sp (s.reg .sp + 2)) ∧
  (∀ (s : State) (v : Word), s.mem.wf = true → s.writable (s.stackAddrs 1) →
    (s.push16 v).top = v ∧ (s.push16 v).popped.regs = s.regs)

/-! ### Arithmetic and logic -/

/-- spec/40_alu.md R152, R155, R157: ADD and ADC of every form, with the flags in numbers. -/
def Obligations.AddAdcResults : Prop :=
  ∀ (f : AluForm) (s : State),
    exec (.add f) s = .next (match f.operands s with
      | .b d a b => (s.setFlags (sumFlags s.flags a b 0)).write8 d (BitVec.ofNat 8 (a.toNat + b.toNat))
      | .w d a b => (s.setFlags (sumFlags s.flags a b 0)).write16 d (BitVec.ofNat 16 (a.toNat + b.toNat))) ∧
    exec (.adc f) s = .next (match f.operands s with
      | .b d a b => (s.setFlags (sumFlags s.flags a b s.flags.cf.toNat)).write8 d
          (BitVec.ofNat 8 (a.toNat + b.toNat + s.flags.cf.toNat))
      | .w d a b => (s.setFlags (sumFlags s.flags a b s.flags.cf.toNat)).write16 d
          (BitVec.ofNat 16 (a.toNat + b.toNat + s.flags.cf.toNat)))

/-- spec/40_alu.md R153, R158, R160, R162, R165: SUB, SBB, CMP and NEG of every form, with the flags in numbers. -/
def Obligations.SubSbbCmpNegResults : Prop :=
  (∀ (f : AluForm) (s : State),
    exec (.sub f) s = .next (match f.operands s with
      | .b d a b => (s.setFlags (differenceFlags s.flags a b 0)).write8 d (BitVec.ofInt 8 (a.toInt - b.toInt))
      | .w d a b => (s.setFlags (differenceFlags s.flags a b 0)).write16 d (BitVec.ofInt 16 (a.toInt - b.toInt))) ∧
    exec (.sbb f) s = .next (match f.operands s with
      | .b d a b => (s.setFlags (differenceFlags s.flags a b s.flags.cf.toNat)).write8 d
          (BitVec.ofInt 8 (a.toInt - b.toInt - s.flags.cf.toNat))
      | .w d a b => (s.setFlags (differenceFlags s.flags a b s.flags.cf.toNat)).write16 d
          (BitVec.ofInt 16 (a.toInt - b.toInt - s.flags.cf.toNat))) ∧
    exec (.cmp f) s = .next (match f.operands s with
      | .b _ a b => s.setFlags (differenceFlags s.flags a b 0)
      | .w _ a b => s.setFlags (differenceFlags s.flags a b 0))) ∧
  (∀ (x : RmForm) (s : State),
    exec (.neg x) s = .next (match x.operand s with
      | .b d a => (s.setFlags (differenceFlags s.flags 0 a 0)).write8 d (BitVec.ofInt 8 (-a.toInt))
      | .w d a => (s.setFlags (differenceFlags s.flags 0 a 0)).write16 d (BitVec.ofInt 16 (-a.toInt))))

/-- spec/40_alu.md R154, R156, R159, R161, R167: AND, OR, XOR and TEST of every form: CF = OF = 0, ZF SF PF from the result,
AF free. -/
def Obligations.LogicResults : Prop :=
  (∀ (f : AluForm) (s : State),
    exec (.and f) s = .next (match f.operands s with
      | .b d a b => (s.flagged (s.logicalFlags (a &&& b)) 1).write8 d (a &&& b)
      | .w d a b => (s.flagged (s.logicalFlags (a &&& b)) 1).write16 d (a &&& b)) ∧
    exec (.or f) s = .next (match f.operands s with
      | .b d a b => (s.flagged (s.logicalFlags (a ||| b)) 1).write8 d (a ||| b)
      | .w d a b => (s.flagged (s.logicalFlags (a ||| b)) 1).write16 d (a ||| b)) ∧
    exec (.xor f) s = .next (match f.operands s with
      | .b d a b => (s.flagged (s.logicalFlags (a ^^^ b)) 1).write8 d (a ^^^ b)
      | .w d a b => (s.flagged (s.logicalFlags (a ^^^ b)) 1).write16 d (a ^^^ b))) ∧
  (∀ (f : TestForm) (s : State),
    exec (.test f) s = .next (match f.operands s with
      | .b _ a b => s.flagged (s.logicalFlags (a &&& b)) 1
      | .w _ a b => s.flagged (s.logicalFlags (a &&& b)) 1))

/-- spec/40_alu.md R163, R164, R166: INC and DEC of every form keep CF; NOT changes no flag. -/
def Obligations.IncDecNotResults : Prop :=
  (∀ (f : IncForm) (s : State),
    exec (.inc f) s = .next (match f.operand s with
      | .b d a => (s.setFlags { sumFlags s.flags a 1 0 with cf := s.flags.cf }).write8 d (BitVec.ofNat 8 (a.toNat + 1))
      | .w d a =>
        (s.setFlags { sumFlags s.flags a 1 0 with cf := s.flags.cf }).write16 d (BitVec.ofNat 16 (a.toNat + 1))) ∧
    exec (.dec f) s = .next (match f.operand s with
      | .b d a =>
        (s.setFlags { differenceFlags s.flags a 1 0 with cf := s.flags.cf }).write8 d (BitVec.ofInt 8 (a.toInt - 1))
      | .w d a =>
        (s.setFlags { differenceFlags s.flags a 1 0 with cf := s.flags.cf }).write16 d
          (BitVec.ofInt 16 (a.toInt - 1)))) ∧
  (∀ (r : Reg16) (x : RmForm) (s : State),
    IncForm.operand s (.r16 r) = .w (.reg r) (s.reg r) ∧ IncForm.operand s (.rm x) = x.operand s) ∧
  (∀ (x : RmForm) (s : State),
    exec (.not x) s = .next (match x.operand s with
      | .b d a => s.write8 d (BitVec.ofNat 8 (255 - a.toNat))
      | .w d a => s.write16 d (BitVec.ofNat 16 (65535 - a.toNat))))

/-! ### Data movement -/

/-- spec/41_data_movement.md R200 to R207: the eight forms of MOV; nothing but the destination changes. MOV to CS is
legal by decision D11. -/
def Obligations.MovResults : Prop :=
  ∀ (s : State) (rm8 : RM8) (rm16 : RM16) (r8 : Reg8) (r16 : Reg16) (i8 : Byte) (i16 : Word) (sr : SReg),
    exec (.movRmReg (.b rm8 r8)) s = .next (s.write8 (s.loc rm8) (s.reg8 r8)) ∧
    exec (.movRmReg (.w rm16 r16)) s = .next (s.write16 (s.loc rm16) (s.reg r16)) ∧
    exec (.movRegRm (.b rm8 r8)) s = .next (s.setReg8 r8 (s.read8 (s.loc rm8))) ∧
    exec (.movRegRm (.w rm16 r16)) s = .next (s.setReg r16 (s.read16 (s.loc rm16))) ∧
    exec (.movRmImm (.b rm8 i8)) s = .next (s.write8 (s.loc rm8) i8) ∧
    exec (.movRmImm (.w rm16 i16)) s = .next (s.write16 (s.loc rm16) i16) ∧
    exec (.movRegImm (.b r8 i8)) s = .next (s.setReg8 r8 i8) ∧
    exec (.movRegImm (.w r16 i16)) s = .next (s.setReg r16 i16) ∧
    (let data := s.seg (s.segOverride.getD .ds);
      exec (.movAccMoffs .byte i16) s = .next (s.setReg8 .al (s.readByte (phys data i16))) ∧
      exec (.movAccMoffs .word i16) s = .next (s.setReg .ax (s.readWord (phys data i16))) ∧
      exec (.movMoffsAcc .byte i16) s = .next (s.writeByte (phys data i16) (s.reg8 .al)) ∧
      exec (.movMoffsAcc .word i16) s = .next (s.writeWord (phys data i16) (s.reg .ax))) ∧
    exec (.movSregRm sr rm16) s = .next (s.setSeg sr (s.read16 (s.loc rm16))) ∧
    exec (.movRmSreg rm16 sr) s = .next (s.write16 (s.loc rm16) (s.seg sr))

/-- spec/41_data_movement.md R208 to R213, spec/49_ext186.md R464, R465: PUSH and POP. PUSH SP by opcode 54 stores the
new SP, by FF /6 the old one; POP SP leaves the popped word. The two forms of PUSH SP are decision D24. -/
def Obligations.PushPopResults : Prop :=
  ∀ (s : State) (r : Reg16) (sr : SReg) (rm : RM16) (i8 : Byte) (i16 : Word),
    let pushed := fun v : Word => (s.setReg .sp (s.reg .sp - 2)).writeWord (phys (s.seg .ss) (s.reg .sp - 2)) v
    let top := s.readWord (phys (s.seg .ss) (s.reg .sp))
    let dropped := s.setReg .sp (s.reg .sp + 2)
    exec (.pushReg r) s = .next (pushed (if r = .sp then s.reg .sp - 2 else s.reg r)) ∧
    exec (.pushSreg sr) s = .next (pushed (s.seg sr)) ∧
    exec (.pushRm rm) s = .next (pushed (s.read16 (s.loc rm))) ∧
    exec (.pushRm (.reg .sp)) s = .next (pushed (s.reg .sp)) ∧
    exec (.pushImm16 i16) s = .next (pushed i16) ∧
    exec (.pushImm8 i8) s = .next (pushed (i8.signExtend 16)) ∧
    exec (.popReg r) s = .next (dropped.setReg r top) ∧
    (exec (.popReg .sp) s = .next (s.setReg .sp top)) ∧
    exec (.popSreg sr) s = .next (dropped.setSeg sr top) ∧
    exec (.popRm rm) s = .next (dropped.write16 (s.loc rm) top)

/-- spec/41_data_movement.md R214 to R222: XCHG, NOP, LEA, LDS, LES, XLAT, CBW and CWD. -/
def Obligations.ExchangeAndAddressResults : Prop :=
  ∀ (s : State) (rm8 : RM8) (rm16 : RM16) (r8 : Reg8) (r16 : Reg16) (m : MemOp),
    exec (.xchgRmReg (.b rm8 r8)) s
      = .next ((s.write8 (s.loc rm8) (s.reg8 r8)).setReg8 r8 (s.read8 (s.loc rm8))) ∧
    exec (.xchgRmReg (.w rm16 r16)) s
      = .next ((s.write16 (s.loc rm16) (s.reg r16)).setReg r16 (s.read16 (s.loc rm16))) ∧
    exec (.xchgAx r16) s = .next ((s.setReg .ax (s.reg r16)).setReg r16 (s.reg .ax)) ∧
    exec .nop s = .next s ∧ exec (.xchgAx .ax) s = .next s ∧
    exec (.lea r16 m) s = .next (s.setReg r16 (s.ea m)) ∧
    exec (.lds r16 m) s = .next ((s.setReg r16 (s.readWord (phys (s.memSeg m) (s.ea m)))).setSeg .ds
      (s.readWord (phys (s.memSeg m) (s.ea m + 2)))) ∧
    exec (.les r16 m) s = .next ((s.setReg r16 (s.readWord (phys (s.memSeg m) (s.ea m)))).setSeg .es
      (s.readWord (phys (s.memSeg m) (s.ea m + 2)))) ∧
    exec .xlat s = .next (s.setReg8 .al (s.readByte (phys (s.seg (s.segOverride.getD .ds))
      (BitVec.ofNat 16 ((s.reg .bx).toNat + (s.reg8 .al).toNat))))) ∧
    exec .cbw s = .next (s.setReg .ax (BitVec.ofInt 16 (s.reg8 .al).toInt)) ∧
    exec .cwd s = .next (s.setReg .dx (if (s.reg .ax).toInt < 0 then 0xFFFF else 0))

/-! ### Control transfer -/

/-- spec/42_control_transfer.md R250: the sixteen conditional jumps, their encodings and predicates. -/
def Obligations.ConditionalJumps : Prop :=
  ∀ (s : State) (d : Byte),
    let goes := fun (i : Instr) (opcode : Byte) (c : Bool) =>
      encode i = [opcode, d] ∧ exec i s = .next (if c then s.setIp (s.target d.toInt) else s)
    let f := s.flags
    goes (.jo d) 0x70 f.ofl ∧ goes (.jno d) 0x71 (!f.ofl) ∧
    goes (.jb d) 0x72 f.cf ∧ goes (.jnb d) 0x73 (!f.cf) ∧
    goes (.jz d) 0x74 f.zf ∧ goes (.jnz d) 0x75 (!f.zf) ∧
    goes (.jbe d) 0x76 (f.cf || f.zf) ∧ goes (.ja d) 0x77 (!(f.cf || f.zf)) ∧
    goes (.js d) 0x78 f.sf ∧ goes (.jns d) 0x79 (!f.sf) ∧
    goes (.jp d) 0x7A f.pf ∧ goes (.jnp d) 0x7B (!f.pf) ∧
    goes (.jl d) 0x7C (f.sf ^^ f.ofl) ∧ goes (.jge d) 0x7D (!(f.sf ^^ f.ofl)) ∧
    goes (.jle d) 0x7E (f.zf || (f.sf ^^ f.ofl)) ∧ goes (.jg d) 0x7F (!(f.zf || (f.sf ^^ f.ofl)))

/-- spec/42_control_transfer.md R250, spec/40_alu.md R162: after CMP a, b the unsigned jumps compare a and b as unsigned
numbers, the signed ones as signed numbers. -/
def Obligations.CompareThenJump : Prop :=
  ∀ (f : AluForm) (s : State), ∃ t, exec (.cmp f) s = .next t ∧
    ∀ d : Byte, let jumps := fun (i : Instr) (c : Prop) =>
        (c → exec i t = .next (t.setIp (t.target d.toInt))) ∧ (¬ c → exec i t = .next t)
      match f.operands s with
      | .b _ a b =>
        jumps (.jb d) (a.toNat < b.toNat) ∧ jumps (.jnb d) (b.toNat ≤ a.toNat) ∧
        jumps (.jbe d) (a.toNat ≤ b.toNat) ∧ jumps (.ja d) (b.toNat < a.toNat) ∧
        jumps (.jz d) (a = b) ∧ jumps (.jnz d) (a ≠ b) ∧
        jumps (.jl d) (a.toInt < b.toInt) ∧ jumps (.jge d) (b.toInt ≤ a.toInt) ∧
        jumps (.jle d) (a.toInt ≤ b.toInt) ∧ jumps (.jg d) (b.toInt < a.toInt)
      | .w _ a b =>
        jumps (.jb d) (a.toNat < b.toNat) ∧ jumps (.jnb d) (b.toNat ≤ a.toNat) ∧
        jumps (.jbe d) (a.toNat ≤ b.toNat) ∧ jumps (.ja d) (b.toNat < a.toNat) ∧
        jumps (.jz d) (a = b) ∧ jumps (.jnz d) (a ≠ b) ∧
        jumps (.jl d) (a.toInt < b.toInt) ∧ jumps (.jge d) (b.toInt ≤ a.toInt) ∧
        jumps (.jle d) (a.toInt ≤ b.toInt) ∧ jumps (.jg d) (b.toInt < a.toInt)

/-- spec/42_control_transfer.md R251 to R259: JMP and CALL of every form. A call pushes CS before IP when it is far; targets
are read before anything is pushed. -/
def Obligations.JumpCallResults : Prop :=
  ∀ (s : State) (d8 : Byte) (d16 off sg : Word) (rm : RM16) (m : MemOp),
    let low := s.readWord (phys (s.memSeg m) (s.ea m))
    let high := s.readWord (phys (s.memSeg m) (s.ea m + 2))
    exec (.jmpShort d8) s = .next (s.setIp (s.target d8.toInt)) ∧
    exec (.jmpNear d16) s = .next (s.setIp (s.target d16.toNat)) ∧
    exec (.jmpFar off sg) s = .next ((s.setSeg .cs sg).setIp off) ∧
    exec (.jmpRm rm) s = .next (s.setIp (s.read16 (s.loc rm))) ∧
    exec (.jmpMem m) s = .next ((s.setSeg .cs high).setIp low) ∧
    exec (.callNear d16) s = .next ((s.push16 s.ip).setIp (s.target d16.toNat)) ∧
    exec (.callFar off sg) s = .next ((((s.push16 (s.seg .cs)).push16 s.ip).setSeg .cs sg).setIp off) ∧
    exec (.callRm rm) s = .next ((s.push16 s.ip).setIp (s.read16 (s.loc rm))) ∧
    exec (.callMem m) s = .next ((((s.push16 (s.seg .cs)).push16 s.ip).setSeg .cs high).setIp low)

/-- spec/42_control_transfer.md R260 to R267: RET, RETF and the loops. JCXZ does not change CX. -/
def Obligations.ReturnLoopResults : Prop :=
  ∀ (s : State) (n : Word) (d : Byte),
    let first := s.readWord (phys (s.seg .ss) (s.reg .sp))
    let second := s.readWord (phys (s.seg .ss) (s.reg .sp + 2))
    let cx := s.reg .cx - 1
    let counted := s.setReg .cx cx
    exec .ret s = .next ((s.setReg .sp (s.reg .sp + 2)).setIp first) ∧
    exec (.retImm n) s = .next ((s.setReg .sp (s.reg .sp + 2 + n)).setIp first) ∧
    exec .retf s = .next (((s.setReg .sp (s.reg .sp + 4)).setIp first).setSeg .cs second) ∧
    exec (.retfImm n) s = .next (((s.setReg .sp (s.reg .sp + 4 + n)).setIp first).setSeg .cs second) ∧
    exec (.loop d) s = .next (if cx ≠ 0 then counted.setIp (s.target d.toInt) else counted) ∧
    exec (.loopz d) s = .next (if cx ≠ 0 ∧ s.flags.zf = true then counted.setIp (s.target d.toInt) else counted) ∧
    exec (.loopnz d) s = .next (if cx ≠ 0 ∧ s.flags.zf = false then counted.setIp (s.target d.toInt) else counted) ∧
    exec (.jcxz d) s = .next (if s.reg .cx = 0 then s.setIp (s.target d.toInt) else s)

/-- spec/42_control_transfer.md R256, R257, R260, R262: a near or far call followed at once by the matching return comes back
to the instruction after the call with every register as it was, if the stack is not read-only. -/
def Obligations.CallThenReturn : Prop :=
  ∀ (s : State) (d off sg : Word), s.mem.wf = true → s.writable (s.stackAddrs 2) →
    (∃ t u, exec (.callNear d) s = .next t ∧ exec .ret t = .next u ∧
      u.ip = s.ip ∧ u.regs = s.regs ∧ u.segs = s.segs ∧ u.flags = s.flags) ∧
    (∃ t u, exec (.callFar off sg) s = .next t ∧ exec .retf t = .next u ∧
      u.ip = s.ip ∧ u.regs = s.regs ∧ u.segs = s.segs ∧ u.flags = s.flags)

/-! ### String instructions -/

/-- spec/43_string.md R300, R302 to R308: one iteration of each string instruction, without a repeat prefix. The source segment
can be overridden, ES cannot. -/
def Obligations.StringIterations : Prop :=
  ∀ s : State, s.repMode = .norep →
    let src := phys (s.seg (s.segOverride.getD .ds)) (s.reg .si)
    let dst := phys (s.seg .es) (s.reg .di)
    let by1 : Word := if s.flags.df then 0xFFFF else 1
    let by2 : Word := if s.flags.df then 0xFFFE else 2
    let si := fun (t : State) (d : Word) => t.setReg .si (s.reg .si + d)
    let di := fun (t : State) (d : Word) => t.setReg .di (s.reg .di + d)
    exec .movsb s = .next (di (si (s.writeByte dst (s.readByte src)) by1) by1) ∧
    exec .movsw s = .next (di (si (s.writeWord dst (s.readWord src)) by2) by2) ∧
    exec .cmpsb s
      = .next (di (si (s.setFlags (differenceFlags s.flags (s.readByte src) (s.readByte dst) 0)) by1) by1) ∧
    exec .cmpsw s
      = .next (di (si (s.setFlags (differenceFlags s.flags (s.readWord src) (s.readWord dst) 0)) by2) by2) ∧
    exec .stosb s = .next (di (s.writeByte dst (s.reg8 .al)) by1) ∧
    exec .stosw s = .next (di (s.writeWord dst (s.reg .ax)) by2) ∧
    exec .lodsb s = .next (si (s.setReg8 .al (s.readByte src)) by1) ∧
    exec .lodsw s = .next (si (s.setReg .ax (s.readWord src)) by2) ∧
    exec .scasb s = .next (di (s.setFlags (differenceFlags s.flags (s.reg8 .al) (s.readByte dst) 0)) by1) ∧
    exec .scasw s = .next (di (s.setFlags (differenceFlags s.flags (s.reg .ax) (s.readWord dst) 0)) by2) ∧
    exec .insb s
      = .next (di ((s.inByte (s.reg .dx)).2.writeByte dst (s.inByte (s.reg .dx)).1) by1) ∧
    exec .insw s
      = .next (di ((s.inWord (s.reg .dx)).2.writeWord dst (s.inWord (s.reg .dx)).1) by2) ∧
    exec .outsb s = .next (si (s.outByte (s.reg .dx) (s.readByte src)) by1) ∧
    exec .outsw s = .next (si (s.outWord (s.reg .dx) (s.readWord src)) by2)

/-- spec/43_string.md R301: with a repeat prefix a string instruction does nothing when CX = 0; otherwise it does one
iteration (what it does without the prefix), counts CX down, and goes back to the first prefix byte while CX is not 0
and, for CMPS and SCAS, ZF matches. One iteration a slot is decision D8. -/
def Obligations.RepeatRule : Prop :=
  ∀ (i : Instr) (s : State),
    i ∈ [Instr.movsb, .movsw, .cmpsb, .cmpsw, .stosb, .stosw, .lodsb, .lodsw, .scasb, .scasw, .insb, .insw, .outsb,
      .outsw] →
    s.repMode ≠ .norep →
    (s.reg .cx = 0 → exec i s = .next s) ∧
    (s.reg .cx ≠ 0 → ∃ u, exec i (s.setRepMode .norep) = .next u ∧
      let t := (u.setReg .cx (s.reg .cx - 1)).setRepMode s.repMode
      let matchesZf := i ∈ [Instr.cmpsb, .cmpsw, .scasb, .scasw] → (t.flags.zf = true ↔ s.repMode = .repe)
      (t.reg .cx ≠ 0 ∧ matchesZf → exec i s = .next (t.setIp s.firstIp)) ∧
      (¬ (t.reg .cx ≠ 0 ∧ matchesZf) → exec i s = .next t))

/-! ### Shifts and rotates -/

/-- spec/44_shift_rotate.md R330, R335, R336, R337, R339: SHL, SHR and SAR by any count, in closed form; count 0
changes nothing. The unmasked count is decision D13. -/
def Obligations.ShiftResults : Prop :=
  ∀ (x : RmForm) (n : ShiftCount) (s : State) (op : ShiftOp) (i : Instr),
    (op, i) ∈ [(ShiftOp.shl, Instr.shl x n), (.shr, .shr x n), (.sar, .sar x n)] →
    (n.value s = 0 → exec i s = .next s) ∧
    (n.value s ≠ 0 → exec i s = .next (match x.operand s with
      | .b d v => (s.flagged (shiftFlags s.flags op (n.value s) v (s.freeBit 0) (s.freeBit 1)) 2).write8 d
          (op.closed (n.value s) v s.flags.cf).1
      | .w d v => (s.flagged (shiftFlags s.flags op (n.value s) v (s.freeBit 0) (s.freeBit 1)) 2).write16 d
          (op.closed (n.value s) v s.flags.cf).1))

/-- spec/44_shift_rotate.md R330 to R334, R339: ROL, ROR, RCL and RCR by any count, in closed form, and the counts.
The unmasked count is decision D13. -/
def Obligations.RotateResults : Prop :=
  (∀ (x : RmForm) (n : ShiftCount) (s : State) (op : ShiftOp) (i : Instr),
    (op, i) ∈ [(ShiftOp.rol, Instr.rol x n), (.ror, .ror x n), (.rcl, .rcl x n), (.rcr, .rcr x n)] →
    (n.value s = 0 → exec i s = .next s) ∧
    (n.value s ≠ 0 → exec i s = .next (match x.operand s with
      | .b d v => (s.flagged (shiftFlags s.flags op (n.value s) v (s.freeBit 0) (s.freeBit 1)) 2).write8 d
          (op.closed (n.value s) v s.flags.cf).1
      | .w d v => (s.flagged (shiftFlags s.flags op (n.value s) v (s.freeBit 0) (s.freeBit 1)) 2).write16 d
          (op.closed (n.value s) v s.flags.cf).1))) ∧
  (∀ (s : State) (i : Byte), ShiftCount.value s .one = 1 ∧ ShiftCount.value s .cl = (s.reg8 .cl).toNat ∧
    ShiftCount.value s (.imm i) = i.toNat)

/-! ### Multiply, divide, decimal -/

/-- spec/45_muldiv.md R360, R361, spec/49_ext186.md R466, R467: the multiplies: the exact product, CF = OF = it does not fit
the half, SF ZF AF PF free. -/
def Obligations.MultiplyResults : Prop :=
  (∀ (x : RmForm) (s : State),
    exec (.mul x) s = .next (match x.operand s with
      | .b _ v =>
        let p := (s.reg8 .al).toNat * v.toNat
        (s.flagged (s.multiplyFlags (decide (p / 256 ≠ 0))) 4).setReg .ax (BitVec.ofNat 16 p)
      | .w _ v =>
        let p := (s.reg .ax).toNat * v.toNat
        ((s.flagged (s.multiplyFlags (decide (p / 65536 ≠ 0))) 4).setReg .dx (BitVec.ofNat 16 (p / 65536))).setReg .ax
          (BitVec.ofNat 16 p)) ∧
    exec (.imul x) s = .next (match x.operand s with
      | .b _ v =>
        let p := (s.reg8 .al).toInt * v.toInt
        (s.flagged (s.multiplyFlags (!fitsSigned 8 p)) 4).setReg .ax (BitVec.ofInt 16 p)
      | .w _ v =>
        let p := (s.reg .ax).toInt * v.toInt
        ((s.flagged (s.multiplyFlags (!fitsSigned 16 p)) 4).setReg .dx (BitVec.ofInt 16 (p / 65536))).setReg .ax
          (BitVec.ofInt 16 p))) ∧
  (∀ (r : Reg16) (rm : RM16) (i16 : Word) (i8 : Byte) (s : State),
    (let p := (s.read16 (s.loc rm)).toInt * i16.toInt;
      exec (.imulImm16 r rm i16) s
        = .next ((s.flagged (s.multiplyFlags (!fitsSigned 16 p)) 4).setReg r (BitVec.ofInt 16 p))) ∧
    (let p := (s.read16 (s.loc rm)).toInt * i8.toInt;
      exec (.imulImm8 r rm i8) s
        = .next ((s.flagged (s.multiplyFlags (!fitsSigned 16 p)) 4).setReg r (BitVec.ofInt 16 p))))

/-- spec/45_muldiv.md R362, R363, R365: a divide whose quotient fits gives the quotient q and remainder r with n = q*d
+ r: floor division unsigned, rounding toward zero signed; the six flags are free. The signed range is decision D12.
-/
def Obligations.DivideResults : Prop :=
  ∀ (x : RmForm) (s : State),
    ((x.operand s).divFaults s = false → match x.operand s with
      | .b _ d => ∃ q r : Nat, (s.reg .ax).toNat = q * d.toNat + r ∧ r < d.toNat ∧ q < 256 ∧
          exec (.div x) s = .next ((s.flagged s.divideFlags 6).setReg .ax (BitVec.ofNat 8 r ++ BitVec.ofNat 8 q))
      | .w _ d => ∃ q r : Nat, (s.reg .dx).toNat * 65536 + (s.reg .ax).toNat = q * d.toNat + r ∧ r < d.toNat ∧
          q < 65536 ∧
          exec (.div x) s
            = .next (((s.flagged s.divideFlags 6).setReg .ax (BitVec.ofNat 16 q)).setReg .dx (BitVec.ofNat 16 r))) ∧
    ((x.operand s).idivFaults s = false → match x.operand s with
      | .b _ d => ∃ q r : Int, (s.reg .ax).toInt = q * d.toInt + r ∧ |r| < |d.toInt| ∧
          (r = 0 ∨ (r < 0 ↔ (s.reg .ax).toInt < 0)) ∧ fitsSigned 8 q = true ∧
          exec (.idiv x) s = .next ((s.flagged s.divideFlags 6).setReg .ax (BitVec.ofInt 8 r ++ BitVec.ofInt 8 q))
      | .w _ d => ∃ q r : Int, (s.reg .dx ++ s.reg .ax : BitVec 32).toInt = q * d.toInt + r ∧ |r| < |d.toInt| ∧
          (r = 0 ∨ (r < 0 ↔ (s.reg .dx).toInt < 0)) ∧ fitsSigned 16 q = true ∧
          exec (.idiv x) s
            = .next (((s.flagged s.divideFlags 6).setReg .ax (BitVec.ofInt 16 q)).setReg .dx (BitVec.ofInt 16 r)))

/-- spec/45_muldiv.md R362 to R364, spec/46_bcd.md R384: a divide by zero or with a quotient that does not fit, and
AAM with base 0, write nothing of their own and take interrupt 0. Decisions D12 and D34. -/
def Obligations.DivideErrors : Prop :=
  (∀ (x : RmForm) (s : State), (x.operand s).divFaults s = true → exec (.div x) s = .next (s.intCall 0)) ∧
  (∀ (x : RmForm) (s : State), (x.operand s).idivFaults s = true → exec (.idiv x) s = .next (s.intCall 0)) ∧
  (∀ s : State, exec (.aam 0) s = .next (s.intCall 0))

/-- spec/46_bcd.md R380 to R385: DAA and DAS on every AL, AF and CF; AAA, AAS, AAM with a base that is not 0, and AAD.
The algorithms are decisions D33 and D34. -/
def Obligations.AdjustResults : Prop :=
  (encode .daa = [0x27] ∧ encode .das = [0x2F] ∧ encode .aaa = [0x37] ∧ encode .aas = [0x3F] ∧
    ∀ base, encode (.aam base) = [0xD4, base] ∧ encode (.aad base) = [0xD5, base]) ∧
  (∀ s : State,
     let al := (s.reg8 .al).toNat
     let low := decide (9 < al % 16) || s.flags.af
     let high := decide (0x99 < al) || s.flags.cf
     let sum : Byte := BitVec.ofNat 8 (al + (if low then 6 else 0) + (if high then 0x60 else 0))
     let diff : Byte := BitVec.ofInt 8 ((al : Int) - (if low then 6 else 0) - (if high then 0x60 else 0))
     exec .daa s = .next ((s.flagged (s.decimalFlags sum low high) 1).setReg8 .al sum) ∧
     exec .das s = .next ((s.flagged (s.decimalFlags diff low (high || (low && decide (al < 6)))) 1).setReg8 .al diff)) ∧
  ((∀ s : State,
     let al := s.reg8 .al
     let ah := s.reg8 .ah
     let adjust := decide (9 < al.toNat % 16) || s.flags.af
     exec .aaa s = .next ((s.flagged (s.asciiFlags adjust) 4).setReg .ax
       (if adjust then BitVec.ofNat 8 (ah.toNat + 1) ++ BitVec.ofNat 8 ((al.toNat + 6) % 16)
        else ah ++ BitVec.ofNat 8 (al.toNat % 16))) ∧
     exec .aas s = .next ((s.flagged (s.asciiFlags adjust) 4).setReg .ax
       (if adjust then BitVec.ofNat 8 (ah.toNat + 255) ++ BitVec.ofNat 8 ((al.toNat + 10) % 16)
        else ah ++ BitVec.ofNat 8 (al.toNat % 16)))) ∧
   (∀ (s : State) (base : Byte),
     let q : Byte := BitVec.ofNat 8 ((s.reg8 .al).toNat / base.toNat)
     let r : Byte := BitVec.ofNat 8 ((s.reg8 .al).toNat % base.toNat)
     let sum : Byte := BitVec.ofNat 8 ((s.reg8 .al).toNat + (s.reg8 .ah).toNat * base.toNat)
     exec (.aam 0) s = .next (s.intCall 0) ∧
     (base ≠ 0 → exec (.aam base) s = .next ((s.flagged (s.baseFlags r) 3).setReg .ax (q ++ r))) ∧
     exec (.aad base) s = .next ((s.flagged (s.baseFlags sum) 3).setReg .ax (0#8 ++ sum))))

/-- spec/46_bcd.md R380, R381: on packed decimal digits ADD then DAA is decimal addition, SUB then DAS is decimal
subtraction, with the decimal carry or borrow in CF. Derived from R380 and R381; the range is all valid packed digits.
-/
def Obligations.PackedDecimalArithmetic : Prop :=
  ∀ (s : State) (x1 x0 y1 y0 : Nat), x1 < 10 → x0 < 10 → y1 < 10 → y0 < 10 →
    s.reg8 .al = BitVec.ofNat 8 (16 * x1 + x0) →
    let y : Byte := BitVec.ofNat 8 (16 * y1 + y0)
    let sum := 10 * x1 + x0 + (10 * y1 + y0)
    let diff := 10 * x1 + x0 + 100 - (10 * y1 + y0)
    (∃ t u, exec (.add (.accImm (.b y))) s = .next t ∧ exec .daa t = .next u ∧
      u.reg8 .al = BitVec.ofNat 8 (16 * (sum / 10 % 10) + sum % 10) ∧ u.flags.cf = decide (100 ≤ sum)) ∧
    (∃ t u, exec (.sub (.accImm (.b y))) s = .next t ∧ exec .das t = .next u ∧
      u.reg8 .al = BitVec.ofNat 8 (16 * (diff / 10 % 10) + diff % 10) ∧ u.flags.cf = decide (diff < 100))

/-! ### Flags and ports -/

/-- spec/47_flags_io.md R400 to R410: the single-flag instructions with their encodings; LAHF, SAHF, PUSHF and POPF. -/
def Obligations.FlagInstructions : Prop :=
  (encode .clc = [0xF8] ∧ encode .stc = [0xF9] ∧ encode .cmc = [0xF5] ∧ encode .cld = [0xFC] ∧ encode .std = [0xFD] ∧
    encode .cli = [0xFA] ∧ encode .sti = [0xFB] ∧ encode .lahf = [0x9F] ∧ encode .sahf = [0x9E] ∧
    encode .pushf = [0x9C] ∧ encode .popf = [0x9D]) ∧
  (∀ s : State, let f := s.flags
    exec .clc s = .next (s.setFlags { f with cf := false }) ∧
    exec .stc s = .next (s.setFlags { f with cf := true }) ∧
    exec .cmc s = .next (s.setFlags { f with cf := !f.cf }) ∧
    exec .cld s = .next (s.setFlags { f with df := false }) ∧
    exec .std s = .next (s.setFlags { f with df := true }) ∧
    exec .cli s = .next (s.setFlags { f with ifl := false }) ∧
    exec .sti s = .next (s.setFlags { f with ifl := true }) ∧
    exec .lahf s = .next (s.setReg8 .ah (BitVec.ofNat 8 (128 * f.sf.toNat + 64 * f.zf.toNat + 16 * f.af.toNat
      + 4 * f.pf.toNat + 2 + f.cf.toNat))) ∧
    exec .sahf s = .next (s.setFlags { f with
      sf := (s.reg8 .ah).getLsbD 7, zf := (s.reg8 .ah).getLsbD 6, af := (s.reg8 .ah).getLsbD 4,
      pf := (s.reg8 .ah).getLsbD 2, cf := (s.reg8 .ah).getLsbD 0 }) ∧
    exec .pushf s = .next (s.push16 f.word) ∧
    exec .popf s = .next ((s.setReg .sp (s.reg .sp + 2)).setFlags
      (Flags.ofWord (s.readWord (phys (s.seg .ss) (s.reg .sp))))))

/-- spec/47_flags_io.md R411 to R414, spec/20_memory.md R73, spec/61_devices.md R611 to R613: IN and OUT, the byte
accesses through the port table, the word accesses as two byte accesses, the lower port first. The word accesses are
decision D18. -/
def Obligations.PortInstructions : Prop :=
  (∀ p : Byte, encode (.inImm .byte p) = [0xE4, p] ∧ encode (.inImm .word p) = [0xE5, p] ∧
    encode (.outImm .byte p) = [0xE6, p] ∧ encode (.outImm .word p) = [0xE7, p] ∧
    encode (.inDx .byte) = [0xEC] ∧ encode (.inDx .word) = [0xED] ∧
    encode (.outDx .byte) = [0xEE] ∧ encode (.outDx .word) = [0xEF]) ∧
  (∀ (s : State) (p : Byte),
    exec (.inImm .byte p) s
      = .next ((s.inByte (BitVec.ofNat 16 p.toNat)).2.setReg8 .al (s.inByte (BitVec.ofNat 16 p.toNat)).1) ∧
    exec (.inImm .word p) s
      = .next ((s.inWord (BitVec.ofNat 16 p.toNat)).2.setReg .ax (s.inWord (BitVec.ofNat 16 p.toNat)).1) ∧
    exec (.inDx .byte) s = .next ((s.inByte (s.reg .dx)).2.setReg8 .al (s.inByte (s.reg .dx)).1) ∧
    exec (.inDx .word) s = .next ((s.inWord (s.reg .dx)).2.setReg .ax (s.inWord (s.reg .dx)).1) ∧
    exec (.outImm .byte p) s = .next (s.outByte (BitVec.ofNat 16 p.toNat) (s.reg8 .al)) ∧
    exec (.outImm .word p) s = .next (s.outWord (BitVec.ofNat 16 p.toNat) (s.reg .ax)) ∧
    exec (.outDx .byte) s = .next (s.outByte (s.reg .dx) (s.reg8 .al)) ∧
    exec (.outDx .word) s = .next (s.outWord (s.reg .dx) (s.reg .ax))) ∧
  (∀ (s : State) (port : Word) (v : Byte), lookupPort s.ports port = none →
    s.inByte port = (0xFF, s) ∧ s.outByte port v = s) ∧
  (∀ (s : State) (port : Word) (v : Byte) (h : Handler), lookupPort s.ports port = some h →
    s.inByte port = s.handlerIn h ∧ s.outByte port v = s.handlerOut port v h) ∧
  (∀ (s : State) (port v : Word),
    s.inWord port
      = (((s.inByte port).2.inByte (port + 1)).1 ++ (s.inByte port).1, ((s.inByte port).2.inByte (port + 1)).2) ∧
    s.outWord port v = (s.outByte port (v.extractLsb' 0 8)).outByte (port + 1) (v.extractLsb' 8 8))

/-- spec/61_devices.md R592, R615, R616: which handler each of the 65 536 ports reaches after reset, and
`setPortRedirector`. The map is decisions D19 to D21 and D29; that no platform handler is registered,
notes/assumptions/16. -/
def Obligations.PortMap : Prop :=
  (∀ port : Word, lookupPort State.reset.ports port =
    match port.toNat with
    | 0x00 => some (.dmaAddress 0) | 0x02 => some (.dmaAddress 1)
    | 0x04 => some (.dmaAddress 2) | 0x06 => some (.dmaAddress 3)
    | 0x01 => some (.dmaCount 0) | 0x03 => some (.dmaCount 1)
    | 0x05 => some (.dmaCount 2) | 0x07 => some (.dmaCount 3)
    | 0x0A => some .dmaMask | 0x0B => some .dmaMode | 0x0C => some .dmaClearFlipFlop
    | 0x20 => some .picCommand | 0x21 => some .picData
    | 0x40 => some (.pitData 0) | 0x41 => some (.pitData 1) | 0x42 => some (.pitData 2) | 0x43 => some .pitMode
    | 0x87 => some (.dmaPage 0) | 0x83 => some (.dmaPage 1) | 0x81 => some (.dmaPage 2) | 0x82 => some (.dmaPage 3)
    | n => if n < 0x10 then some .dmaIgnored else if 0x80 ≤ n ∧ n < 0x90 then some .dmaPageIgnored else none) ∧
  (∀ (s : State) (lo hi port : Word) (h : Option Handler),
    lookupPort (s.setPortRedirector lo hi h).ports port =
      if lo.toNat ≤ port.toNat ∧ port.toNat ≤ hi.toNat then h else lookupPort s.ports port)

/-! ### Interrupts -/

/-- spec/60_exceptions.md R510: `IntCall(n)` pushes FLAGS, CS and IP, clears IF and TF and no other flag, and loads IP
and CS from the vector table as it is after the pushes. Decision D35. -/
def Obligations.InterruptEntry : Prop :=
  ∀ (s : State) (n : Byte), let t := s.intCall n
    let u := ((s.push16 s.flags.word).push16 (s.seg .cs)).push16 s.ip
    t.mem = u.mem ∧ t.reg .sp = s.reg .sp - 6 ∧ (∀ r, r ≠ .sp → t.reg r = s.reg r) ∧
    (∀ r, r ≠ .cs → t.seg r = s.seg r) ∧
    t.flags = { s.flags with ifl := false, tf := false } ∧
    t.ip = u.readWord (BitVec.ofNat 20 (4 * n.toNat)) ∧ t.seg .cs = u.readWord (BitVec.ofNat 20 (4 * n.toNat + 2)) ∧
    (s.mem.wf = true → s.writable (s.stackAddrs 3) →
      t.readWord (phys (s.seg .ss) (s.reg .sp - 2)) = s.flags.word ∧
      t.readWord (phys (s.seg .ss) (s.reg .sp - 4)) = s.seg .cs ∧
      t.readWord (phys (s.seg .ss) (s.reg .sp - 6)) = s.ip)

/-- spec/48_int_misc.md R430 to R433, R437 to R440, R445, spec/30_encoding.md R104: INT3, INT n, INTO, IRET and the
illegal encodings under either policy; HLT sets the halt state, LOCK, WAIT and ESC do nothing, the six prefix bytes
set the decode state. Decisions D11, D23 and D27. -/
def Obligations.InterruptHaltAndPrefixResults : Prop :=
  (∀ (s : State) (n op : Byte) (reg : BitVec 3) (rm : RM16),
     exec .int3 s = .next (s.intCall 3) ∧
     exec (.int n) s = .next (s.intCall n) ∧
     exec .into s = .next (if s.flags.ofl then s.intCall 4 else s) ∧
     exec .iret s = .next ((((s.setReg .sp (s.reg .sp + 6)).setIp
       (s.readWord (phys (s.seg .ss) (s.reg .sp)))).setSeg .cs (s.readWord (phys (s.seg .ss) (s.reg .sp + 2)))).setFlags
       (Flags.ofWord (s.readWord (phys (s.seg .ss) (s.reg .sp + 4))))) ∧
     exec (.illegalOp op) s
       = .next (match Config.illegalOpcodePolicy with | .raise6 => s.intCall 6 | .nop => s) ∧
     exec (.illegalModrm op reg rm) s
       = .next (match Config.illegalOpcodePolicy with | .raise6 => s.intCall 6 | .nop => s)) ∧
  (∀ (s : State) (sel reg : BitVec 3) (rm : RM16),
     exec .hlt s = .next (s.setHalt true) ∧
     exec .lock s = .next s ∧ exec .wait s = .next s ∧ exec (.esc sel reg rm) s = .next s ∧
     exec .segEs s = .next (s.setSegOverride (some .es)) ∧ exec .segCs s = .next (s.setSegOverride (some .cs)) ∧
     exec .segSs s = .next (s.setSegOverride (some .ss)) ∧ exec .segDs s = .next (s.setSegOverride (some .ds)) ∧
     exec .repne s = .next (s.setRepMode .repne) ∧ exec .rep s = .next (s.setRepMode .repe))

/-- spec/48_int_misc.md R433: IRET is the exact inverse of the three pushes of `IntCall`, if the stack is not read-only. -/
def Obligations.InterruptReturnUndoesEntry : Prop :=
  ∀ (s : State) (n : Byte), s.mem.wf = true → s.writable (s.stackAddrs 3) →
    ∃ t, exec .iret (s.intCall n) = .next t ∧
      t.ip = s.ip ∧ t.regs = s.regs ∧ t.segs = s.segs ∧ t.flags = s.flags

/-! ### The 80186 additions -/

/-- spec/49_ext186.md R461 to R463, R469, R470: PUSHA, POPA, BOUND, LEAVE and ENTER. PUSHA stores the old SP, POPA
skips it; BOUND takes interrupt 5 exactly when the signed index is outside the signed bounds. ENTER's frame pointer is
SP after the push of BP; the level modulo 32 says how many words follow it; the words between are copied from below
old BP; then the locals. That these are legal is decision D1; BOUND's pushed IP is D36. -/
def Obligations.Ext186Results : Prop :=
  (∀ s : State,
     exec .pusha s = .next ([s.reg .ax, s.reg .cx, s.reg .dx, s.reg .bx, s.reg .sp, s.reg .bp, s.reg .si,
       s.reg .di].foldl State.push16 s) ∧
     (let word := fun k : Nat => s.readWord (phys (s.seg .ss) (s.reg .sp + BitVec.ofNat 16 (2 * k)));
       exec .popa s = .next (s.setRegs ⟨word 7, word 6, word 5, word 4, s.reg .sp + 16, word 2, word 1, word 0⟩)) ∧
     (∀ (r : Reg16) (m : MemOp),
       let low := (s.readWord (phys (s.memSeg m) (s.ea m))).toInt
       let high := (s.readWord (phys (s.memSeg m) (s.ea m + 2))).toInt
       (low ≤ (s.reg r).toInt ∧ (s.reg r).toInt ≤ high → exec (.bound r m) s = .next s) ∧
       (¬ (low ≤ (s.reg r).toInt ∧ (s.reg r).toInt ≤ high) → exec (.bound r m) s = .next (s.intCall 5))) ∧
     exec .leave s = .next ((s.setReg .sp (s.reg .bp + 2)).setReg .bp (s.readWord (phys (s.seg .ss) (s.reg .bp))))) ∧
  ((∀ (s : State) (size : Word) (level : Byte), let t := s.push16 (s.reg .bp)
     let frame := s.reg .sp - 2
     (level.toNat % 32 = 0 → exec (.enter size level) s = .next ((t.setReg .bp frame).setReg .sp (frame - size))) ∧
     (∀ n, level.toNat % 32 = n + 1 → exec (.enter size level) s
       = .next ((((t.copyFrames n).push16 frame).setReg .bp frame).setReg .sp
           (frame - BitVec.ofNat 16 (2 * (n + 1)) - size)))) ∧
   (∀ (s : State) (n : Nat), s.copyFrames 0 = s ∧
     s.copyFrames (n + 1) = State.copyFrames ((s.setReg .bp (s.reg .bp - 2)).push16
       (s.readWord (phys (s.seg .ss) (s.reg .bp - 2)))) n))

/-- spec/49_ext186.md R461, R462, R469, R470: POPA after PUSHA and LEAVE after ENTER, of any size and level, bring the
registers back, if the stack is not read-only. -/
def Obligations.FrameInstructionsUndo : Prop :=
  ∀ s : State, s.mem.wf = true →
    (s.writable (s.stackAddrs 8) →
      ∃ t u, exec .pusha s = .next t ∧ exec .popa t = .next u ∧ u.regs = s.regs ∧ u.flags = s.flags) ∧
    (∀ (size : Word) (level : Byte), s.writable (s.stackAddrs 1) →
      ∃ t u, exec (.enter size level) s = .next t ∧ exec .leave t = .next u ∧ u.regs = s.regs ∧ u.flags = s.flags)

/-! ### Devices -/

/-- spec/61_devices.md R552 to R554: eligibility; requests are idempotent and a line above 7 is absorbed; the
acknowledge moves the lowest eligible line from IRR to ISR and gives its vector. The truncation of the vector is the
spec's derivation from R510. -/
def Obligations.PicRequests : Prop :=
  (∀ p : Pic, p.eligible = true ↔ ∃ i, i < 8 ∧ p.irr.getLsbD i = true ∧ p.imr.getLsbD i = false) ∧
  (∀ (p : Pic) (line : Nat),
    (p.doirq line).doirq line = p.doirq line ∧ { p.doirq line with irr := p.irr } = p ∧
    (8 ≤ line → p.doirq line = p) ∧
    ∀ i, (p.doirq line).irr.getLsbD i = (p.irr.getLsbD i || decide (i = line ∧ line < 8))) ∧
  (∀ p : Pic, p.eligible = true → ∃ line, line < 8 ∧ p.irr.getLsbD line = true ∧ p.imr.getLsbD line = false ∧
    (∀ i, i < line → p.irr.getLsbD i = true → p.imr.getLsbD i = true) ∧
    p.vector = BitVec.ofNat 8 (p.icw2.toNat + line) ∧
    { p.acknowledged with irr := p.irr, isr := p.isr } = p ∧
    (∀ i, p.acknowledged.irr.getLsbD i = (p.irr.getLsbD i && decide (i ≠ line))) ∧
    (∀ i, p.acknowledged.isr.getLsbD i = (p.isr.getLsbD i || decide (i = line))))

/-- spec/61_devices.md R555 to R559: the PIC's command and data ports. Decision D19. -/
def Obligations.PicPorts : Prop :=
  (∀ (p : Pic) (v : Byte),
    (v.getLsbD 4 = true → p.writeCommand v = { p with icw1 := v, imr := 0, icwstep := .icw2 }) ∧
    (v.getLsbD 4 = false → v.getLsbD 3 = true →
      p.writeCommand v = if v.getLsbD 1 then { p with readIsr := v.getLsbD 0 } else p) ∧
    (v.getLsbD 4 = false → v.getLsbD 3 = false → p.writeCommand v = if v.getLsbD 5 then p.eoi else p)) ∧
  (∀ (p : Pic) (v : Byte), let after3 := if p.icw1.getLsbD 0 then IcwStep.icw4 else IcwStep.idle
    (p.icwstep = .icw2 →
      p.writeData v = { p with icw2 := v, icwstep := if p.icw1.getLsbD 1 then after3 else .icw3 }) ∧
    (p.icwstep = .icw3 → p.writeData v = { p with icw3 := v, icwstep := after3 }) ∧
    (p.icwstep = .icw4 → p.writeData v = { p with icw4 := v, icwstep := .idle }) ∧
    (p.icwstep = .idle → p.writeData v = { p with imr := v })) ∧
  (∀ p : Pic, (p.isr = 0 → p.eoi = p) ∧
    (∀ line, line < 8 → p.isr.getLsbD line = true → (∀ i, i < line → p.isr.getLsbD i = false) →
      let rearms := line = 0 ∧ 0 < p.catchup
      (∀ i, p.eoi.isr.getLsbD i = (p.isr.getLsbD i && decide (i ≠ line))) ∧
      (∀ i, p.eoi.irr.getLsbD i = (p.irr.getLsbD i || decide (i = 0 ∧ rearms))) ∧
      p.eoi.catchup = (if rearms then 0 else p.catchup) ∧
      { p.eoi with isr := p.isr, irr := p.irr, catchup := p.catchup } = p)) ∧
  (∀ p : Pic, p.readCommand = (if p.readIsr then p.isr else p.irr) ∧ p.readData = p.imr)

/-- spec/61_devices.md R570, R573 to R576, R578: the PIT's mode and data ports, the derived frequency and the period
of a channel, and the frequency the speaker is given; the byte read is free, its effect on the flip-flop is not.
Decision D20; the free byte is notes/assumptions/17, the two readings of the division notes/assumptions/28. -/
def Obligations.PitPorts : Prop :=
  (∀ (p : Pit) (v : Byte) (c : Fin 3),
    let a := if v.toNat / 16 % 4 = 0 then Access.latch else if v.toNat / 16 % 4 = 1 then .lo
      else if v.toNat / 16 % 4 = 2 then .hi else .toggle
    (p.writeMode v).get c =
      if v.toNat / 64 = c.val then
        { p.get c with access := a, flipHigh := if v.toNat / 16 % 4 = 3 then false else (p.get c).flipHigh }
      else p.get c) ∧
  (∀ (x : PitChannel) (v : Byte), let y := x.writeData v
    let low : Word := x.reload.extractLsb' 8 8 ++ v
    let high : Word := v ++ x.reload.extractLsb' 0 8
    (x.access = .latch → y = x) ∧
    (x.access = .lo → y = { x with reload := low, active := true }) ∧
    (x.access = .hi → y = { x with reload := high, active := true }) ∧
    (x.access = .toggle → x.flipHigh = false → y = { x with reload := low, active := true, flipHigh := true }) ∧
    (x.access = .toggle → x.flipHigh = true → y = { x with reload := high, active := true, flipHigh := false })) ∧
  (∀ x : PitChannel, x.eff = if x.reload = 0 then 65536 else x.reload.toNat) ∧
  (∀ (s : State) (c d : Fin 3), let x := s.handlerIn (.pitData c)
    x.2.pit.get d = (if d = c ∧ (s.pit.get c).access = .toggle
      then { s.pit.get c with flipHigh := !(s.pit.get c).flipHigh } else s.pit.get d) ∧
    { x.2 with pit := s.pit, draws := s.draws } = s) ∧
  (∀ (p : Pit) (c d : Fin 3) (x : PitChannel), (p.set c x).get d = if d = c then x else p.get d) ∧
  (∀ x : PitChannel,
    (match Config.freqDivision with
      | .real => x.freq * x.eff = 1193182
      | .integer => x.freq = ((1193182 / x.eff : Nat) : ℚ)) ∧
    x.period * 1193182 = x.eff) ∧
  (∀ (s : State) (port : Word) (v : Byte) (c : Fin 3), (s.handlerOut port v (.pitData c)).speakerFreq =
    if c = 2 then (s.pit.ch2.writeData v).freq else s.pit.ch2.freq)

/-- spec/61_devices.md R593 to R596: the DMA controller's ports, and `DmaRead`: a channel delivers the bytes at page,
address plus or minus count, reload + 1 of them, and then the sentinel, unless it starts again. Decision D21. -/
def Obligations.DmaController : Prop :=
  (∀ (d : Dma) (c e : Fin 4) (v : Byte), let x := d.get c
    let put := fun w : Word => if d.flipHigh then v ++ w.extractLsb' 0 8 else w.extractLsb' 8 8 ++ v
    (d.writeAddress c v).get e = (if e = c then { x with address := put x.address } else d.get e) ∧
    (d.writeAddress c v).flipHigh = !d.flipHigh ∧
    (d.writeCount c v).get e = (if e = c then { x with reload := put x.reload, count := 0 } else d.get e) ∧
    (d.writeCount c v).flipHigh = !d.flipHigh ∧
    (d.writePage c v).get e = (if e = c then { x with page := v } else d.get e) ∧
    (d.writePage c v).flipHigh = d.flipHigh ∧
    (d.writeMask v).get e = (if e.val = v.toNat % 4 then { d.get e with masked := v.getLsbD 2 } else d.get e) ∧
    (d.writeMask v).flipHigh = d.flipHigh ∧
    (d.writeMode v).get e = (if e.val = v.toNat % 4
      then { d.get e with descend := v.getLsbD 5, autoinit := v.getLsbD 4, writemode := v.getLsbD 2 } else d.get e) ∧
    (d.writeMode v).flipHigh = d.flipHigh ∧
    d.clearFlipFlop = { d with flipHigh := false }) ∧
  (∀ (s : State) (c : Fin 4), let x := s.dma.get c
    let exhausted := x.reload.toNat < x.count
    let k := if x.autoinit = true ∧ exhausted then 0 else x.count
    let base : Int := x.page.toNat * 65536 + x.address.toNat
    (x.masked = true ∨ (exhausted ∧ x.autoinit = false) → s.dmaByte c.val = 0x80 ∧ s.dmaAdvance c.val = s) ∧
    (x.masked = false → (exhausted → x.autoinit = true) →
      s.dmaByte c.val = s.readByte (BitVec.ofInt 20 (if x.descend then base - k else base + k)) ∧
      s.dmaAdvance c.val = s.setDma (s.dma.set c { x with count := k + 1 }))) ∧
  (∀ (s : State) (channel : Nat), 4 ≤ channel → s.dmaByte channel = 0x80 ∧ s.dmaAdvance channel = s)

/-! ### Events and time -/

/-- spec/00_scope.md R9, spec/10_state.md R22, spec/20_memory.md R81: no external event writes a CPU register, memory,
the read-only map or the port table; a poll of the scheduler asserts line 0 at most once, and only while PIT channel 0
is active; the poll of a slot happens on the cadence only (R500, `TICK_CADENCE` of R6; what on the cadence means is
notes/assumptions/27). When events occur is decision D22. -/
def Obligations.ExternalEventsKeepCpuAndMemory : Prop :=
  (∀ (s : State) (e : Event), let t := s.applyEvent e
    t.regs = s.regs ∧ t.segs = s.segs ∧ t.ip = s.ip ∧ t.flags = s.flags ∧ t.halt = s.halt ∧
    t.trapLatch = s.trapLatch ∧ t.mem = s.mem ∧ t.ro = s.ro ∧ t.ports = s.ports ∧ t.instrCount = s.instrCount ∧
    t.pic.isr = s.pic.isr ∧ t.pic.imr = s.pic.imr ∧ t.pic.icw2 = s.pic.icw2) ∧
  (∀ (s : State) (now : Nat),
    (s.tick now).pic = s.pic ∨ ((s.tick now).pic = s.pic.doirq 0 ∧ s.pit.ch0.active = true)) ∧
  (∀ (s : State) (now : Nat), s.applyEvent (.poll now) =
    if s.instrCount % Config.tickCadence = 0 then s.applyEvent (.tick now) else s) ∧
  0 < Config.tickCadence

/-- spec/61_devices.md R576, R580, R581, R621, R622: after `init()`, k polls at a time that n whole PIT intervals have
passed advance the marker by min(k, n) intervals, one per poll, and a poll asserts line 0 exactly when its interval
has elapsed and channel 0 is active. The interval is the period of channel 0 in host ticks, off by less than one tick
(R576). That the marker advances while channel 0 is inactive, and that the interval is computed at each poll, is the
model's choice (notes/assumptions/8). -/
def Obligations.SchedulerCatchesUp : Prop :=
  (∀ (s : State) (start now k : Nat), start ≤ now →
    let iv := s.pit.ch0.hostTicks
    let polls := fun n : Nat => (fun t : State => t.tick now)^[n] (s.schedulerInit start)
    (polls k).sched.lastServiced = start + iv * min k ((now - start) / iv) ∧
    (polls (k + 1)).pic =
      if (polls k).sched.lastServiced + iv ≤ now ∧ s.pit.ch0.active = true then (polls k).pic.doirq 0
      else (polls k).pic) ∧
  (∀ x : PitChannel, x.hostTicks * 1193182 < Config.hostFreq * x.eff + 1193182 ∧
    Config.hostFreq * x.eff < (x.hostTicks + 1) * 1193182)

/-! ### Frames -/

/-- What each instruction leaves unchanged of the registers, the segment registers, the flags and IP: everything its footprint
does not name. -/
def Obligations.FrameOfRegistersAndFlags : Prop :=
  ∀ (i : Instr) (s t : State), exec i s = .next t →
    (∀ r, r ∉ (i.footprint s).regs → t.reg r = s.reg r) ∧
    (∀ r, r ∉ (i.footprint s).segs → t.seg r = s.seg r) ∧
    (∀ f, f ∉ (i.footprint s).flags → t.flags.get f = s.flags.get f) ∧
    ((i.footprint s).ip = false → t.ip = s.ip)

/-- Every byte of memory outside the bytes that the footprint of the instruction computes reads as before. -/
def Obligations.FrameOfMemory : Prop :=
  ∀ (i : Instr) (s t : State), exec i s = .next t →
    ∀ a : Addr, a ∉ (i.footprint s).bytes → t.readByte a = s.readByte a

/-- What each instruction leaves unchanged of the rest: only IN, OUT, INS and OUTS reach the devices, only HLT changes the halt
state, only the prefix bytes the decode state; the trap latch, the read-only map, the port table, the scheduler, the
running flag and the event stream never change; output events come from stores and port accesses only. -/
def Obligations.FrameOfDevicesAndControl : Prop :=
  ∀ (i : Instr) (s t : State), exec i s = .next t →
    ((i.footprint s).devices = false → t.pic = s.pic ∧ t.pit = s.pit ∧ t.dma = s.dma) ∧
    (i ≠ .hlt → t.halt = s.halt) ∧
    (i.isPrefix = false → t.segOverride = s.segOverride ∧ t.repMode = s.repMode) ∧
    t.trapLatch = s.trapLatch ∧ t.firstIp = s.firstIp ∧ t.ro = s.ro ∧ t.ports = s.ports ∧ t.sched = s.sched ∧
    t.running = s.running ∧ t.events = s.events ∧
    ((i.footprint s).bytes = [] → (i.footprint s).devices = false → t.outputs = s.outputs)

/-- spec/47_flags_io.md R415: only POPF and IRET set TF; only STI, POPF and IRET set IF. -/
def Obligations.OnlyTheseSetTfAndIf : Prop :=
  ∀ (i : Instr) (s t : State), exec i s = .next t →
    (s.flags.tf = false → t.flags.tf = true → i = .popf ∨ i = .iret) ∧
    (s.flags.ifl = false → t.flags.ifl = true → i = .sti ∨ i = .popf ∨ i = .iret)
end

