-- ==== Sys2Proof/Laws/State.lean ====
section
/-! SUPPORT. What a field update leaves and what it writes: one lemma for each field and each update, so that no proof
unfolds a record update. -/

namespace Sys2Proof.Machine

@[simp] theorem State.setRegs_regs (s : State) (v : Regs) : (s.setRegs v).regs = v := rfl
@[simp] theorem State.setSegs_regs (s : State) (v : SegRegs) : (s.setSegs v).regs = s.regs := rfl
@[simp] theorem State.setIp_regs (s : State) (v : Word) : (s.setIp v).regs = s.regs := rfl
@[simp] theorem State.setFlags_regs (s : State) (v : Flags) : (s.setFlags v).regs = s.regs := rfl
@[simp] theorem State.setHalt_regs (s : State) (v : Bool) : (s.setHalt v).regs = s.regs := rfl
@[simp] theorem State.setTrapLatch_regs (s : State) (v : Bool) : (s.setTrapLatch v).regs = s.regs := rfl
@[simp] theorem State.setSegOverride_regs (s : State) (v : Option SReg) : (s.setSegOverride v).regs = s.regs := rfl
@[simp] theorem State.setRepMode_regs (s : State) (v : RepMode) : (s.setRepMode v).regs = s.regs := rfl
@[simp] theorem State.setFirstIp_regs (s : State) (v : Word) : (s.setFirstIp v).regs = s.regs := rfl
@[simp] theorem State.setMem_regs (s : State) (v : Memory) : (s.setMem v).regs = s.regs := rfl
@[simp] theorem State.setRo_regs (s : State) (v : RoMap) : (s.setRo v).regs = s.regs := rfl
@[simp] theorem State.setPic_regs (s : State) (v : Pic) : (s.setPic v).regs = s.regs := rfl
@[simp] theorem State.setPit_regs (s : State) (v : Pit) : (s.setPit v).regs = s.regs := rfl
@[simp] theorem State.setDma_regs (s : State) (v : Dma) : (s.setDma v).regs = s.regs := rfl
@[simp] theorem State.setPorts_regs (s : State) (v : List PortRange) : (s.setPorts v).regs = s.regs := rfl
@[simp] theorem State.setSched_regs (s : State) (v : Scheduler) : (s.setSched v).regs = s.regs := rfl
@[simp] theorem State.setInstrCount_regs (s : State) (v : Nat) : (s.setInstrCount v).regs = s.regs := rfl
@[simp] theorem State.setRunning_regs (s : State) (v : Bool) : (s.setRunning v).regs = s.regs := rfl
@[simp] theorem State.setDraws_regs (s : State) (v : Nat) : (s.setDraws v).regs = s.regs := rfl
@[simp] theorem State.setEvents_regs (s : State) (v : List (List Event)) : (s.setEvents v).regs = s.regs := rfl
@[simp] theorem State.setOutputs_regs (s : State) (v : List Output) : (s.setOutputs v).regs = s.regs := rfl
@[simp] theorem State.setRegs_segs (s : State) (v : Regs) : (s.setRegs v).segs = s.segs := rfl
@[simp] theorem State.setSegs_segs (s : State) (v : SegRegs) : (s.setSegs v).segs = v := rfl
@[simp] theorem State.setIp_segs (s : State) (v : Word) : (s.setIp v).segs = s.segs := rfl
@[simp] theorem State.setFlags_segs (s : State) (v : Flags) : (s.setFlags v).segs = s.segs := rfl
@[simp] theorem State.setHalt_segs (s : State) (v : Bool) : (s.setHalt v).segs = s.segs := rfl
@[simp] theorem State.setTrapLatch_segs (s : State) (v : Bool) : (s.setTrapLatch v).segs = s.segs := rfl
@[simp] theorem State.setSegOverride_segs (s : State) (v : Option SReg) : (s.setSegOverride v).segs = s.segs := rfl
@[simp] theorem State.setRepMode_segs (s : State) (v : RepMode) : (s.setRepMode v).segs = s.segs := rfl
@[simp] theorem State.setFirstIp_segs (s : State) (v : Word) : (s.setFirstIp v).segs = s.segs := rfl
@[simp] theorem State.setMem_segs (s : State) (v : Memory) : (s.setMem v).segs = s.segs := rfl
@[simp] theorem State.setRo_segs (s : State) (v : RoMap) : (s.setRo v).segs = s.segs := rfl
@[simp] theorem State.setPic_segs (s : State) (v : Pic) : (s.setPic v).segs = s.segs := rfl
@[simp] theorem State.setPit_segs (s : State) (v : Pit) : (s.setPit v).segs = s.segs := rfl
@[simp] theorem State.setDma_segs (s : State) (v : Dma) : (s.setDma v).segs = s.segs := rfl
@[simp] theorem State.setPorts_segs (s : State) (v : List PortRange) : (s.setPorts v).segs = s.segs := rfl
@[simp] theorem State.setSched_segs (s : State) (v : Scheduler) : (s.setSched v).segs = s.segs := rfl
@[simp] theorem State.setInstrCount_segs (s : State) (v : Nat) : (s.setInstrCount v).segs = s.segs := rfl
@[simp] theorem State.setRunning_segs (s : State) (v : Bool) : (s.setRunning v).segs = s.segs := rfl
@[simp] theorem State.setDraws_segs (s : State) (v : Nat) : (s.setDraws v).segs = s.segs := rfl
@[simp] theorem State.setEvents_segs (s : State) (v : List (List Event)) : (s.setEvents v).segs = s.segs := rfl
@[simp] theorem State.setOutputs_segs (s : State) (v : List Output) : (s.setOutputs v).segs = s.segs := rfl
@[simp] theorem State.setRegs_ip (s : State) (v : Regs) : (s.setRegs v).ip = s.ip := rfl
@[simp] theorem State.setSegs_ip (s : State) (v : SegRegs) : (s.setSegs v).ip = s.ip := rfl
@[simp] theorem State.setIp_ip (s : State) (v : Word) : (s.setIp v).ip = v := rfl
@[simp] theorem State.setFlags_ip (s : State) (v : Flags) : (s.setFlags v).ip = s.ip := rfl
@[simp] theorem State.setHalt_ip (s : State) (v : Bool) : (s.setHalt v).ip = s.ip := rfl
@[simp] theorem State.setTrapLatch_ip (s : State) (v : Bool) : (s.setTrapLatch v).ip = s.ip := rfl
@[simp] theorem State.setSegOverride_ip (s : State) (v : Option SReg) : (s.setSegOverride v).ip = s.ip := rfl
@[simp] theorem State.setRepMode_ip (s : State) (v : RepMode) : (s.setRepMode v).ip = s.ip := rfl
@[simp] theorem State.setFirstIp_ip (s : State) (v : Word) : (s.setFirstIp v).ip = s.ip := rfl
@[simp] theorem State.setMem_ip (s : State) (v : Memory) : (s.setMem v).ip = s.ip := rfl
@[simp] theorem State.setRo_ip (s : State) (v : RoMap) : (s.setRo v).ip = s.ip := rfl
@[simp] theorem State.setPic_ip (s : State) (v : Pic) : (s.setPic v).ip = s.ip := rfl
@[simp] theorem State.setPit_ip (s : State) (v : Pit) : (s.setPit v).ip = s.ip := rfl
@[simp] theorem State.setDma_ip (s : State) (v : Dma) : (s.setDma v).ip = s.ip := rfl
@[simp] theorem State.setPorts_ip (s : State) (v : List PortRange) : (s.setPorts v).ip = s.ip := rfl
@[simp] theorem State.setSched_ip (s : State) (v : Scheduler) : (s.setSched v).ip = s.ip := rfl
@[simp] theorem State.setInstrCount_ip (s : State) (v : Nat) : (s.setInstrCount v).ip = s.ip := rfl
@[simp] theorem State.setRunning_ip (s : State) (v : Bool) : (s.setRunning v).ip = s.ip := rfl
@[simp] theorem State.setDraws_ip (s : State) (v : Nat) : (s.setDraws v).ip = s.ip := rfl
@[simp] theorem State.setEvents_ip (s : State) (v : List (List Event)) : (s.setEvents v).ip = s.ip := rfl
@[simp] theorem State.setOutputs_ip (s : State) (v : List Output) : (s.setOutputs v).ip = s.ip := rfl
@[simp] theorem State.setRegs_flags (s : State) (v : Regs) : (s.setRegs v).flags = s.flags := rfl
@[simp] theorem State.setSegs_flags (s : State) (v : SegRegs) : (s.setSegs v).flags = s.flags := rfl
@[simp] theorem State.setIp_flags (s : State) (v : Word) : (s.setIp v).flags = s.flags := rfl
@[simp] theorem State.setFlags_flags (s : State) (v : Flags) : (s.setFlags v).flags = v := rfl
@[simp] theorem State.setHalt_flags (s : State) (v : Bool) : (s.setHalt v).flags = s.flags := rfl
@[simp] theorem State.setTrapLatch_flags (s : State) (v : Bool) : (s.setTrapLatch v).flags = s.flags := rfl
@[simp] theorem State.setSegOverride_flags (s : State) (v : Option SReg) : (s.setSegOverride v).flags = s.flags := rfl
@[simp] theorem State.setRepMode_flags (s : State) (v : RepMode) : (s.setRepMode v).flags = s.flags := rfl
@[simp] theorem State.setFirstIp_flags (s : State) (v : Word) : (s.setFirstIp v).flags = s.flags := rfl
@[simp] theorem State.setMem_flags (s : State) (v : Memory) : (s.setMem v).flags = s.flags := rfl
@[simp] theorem State.setRo_flags (s : State) (v : RoMap) : (s.setRo v).flags = s.flags := rfl
@[simp] theorem State.setPic_flags (s : State) (v : Pic) : (s.setPic v).flags = s.flags := rfl
@[simp] theorem State.setPit_flags (s : State) (v : Pit) : (s.setPit v).flags = s.flags := rfl
@[simp] theorem State.setDma_flags (s : State) (v : Dma) : (s.setDma v).flags = s.flags := rfl
@[simp] theorem State.setPorts_flags (s : State) (v : List PortRange) : (s.setPorts v).flags = s.flags := rfl
@[simp] theorem State.setSched_flags (s : State) (v : Scheduler) : (s.setSched v).flags = s.flags := rfl
@[simp] theorem State.setInstrCount_flags (s : State) (v : Nat) : (s.setInstrCount v).flags = s.flags := rfl
@[simp] theorem State.setRunning_flags (s : State) (v : Bool) : (s.setRunning v).flags = s.flags := rfl
@[simp] theorem State.setDraws_flags (s : State) (v : Nat) : (s.setDraws v).flags = s.flags := rfl
@[simp] theorem State.setEvents_flags (s : State) (v : List (List Event)) : (s.setEvents v).flags = s.flags := rfl
@[simp] theorem State.setOutputs_flags (s : State) (v : List Output) : (s.setOutputs v).flags = s.flags := rfl
@[simp] theorem State.setRegs_halt (s : State) (v : Regs) : (s.setRegs v).halt = s.halt := rfl
@[simp] theorem State.setSegs_halt (s : State) (v : SegRegs) : (s.setSegs v).halt = s.halt := rfl
@[simp] theorem State.setIp_halt (s : State) (v : Word) : (s.setIp v).halt = s.halt := rfl
@[simp] theorem State.setFlags_halt (s : State) (v : Flags) : (s.setFlags v).halt = s.halt := rfl
@[simp] theorem State.setHalt_halt (s : State) (v : Bool) : (s.setHalt v).halt = v := rfl
@[simp] theorem State.setTrapLatch_halt (s : State) (v : Bool) : (s.setTrapLatch v).halt = s.halt := rfl
@[simp] theorem State.setSegOverride_halt (s : State) (v : Option SReg) : (s.setSegOverride v).halt = s.halt := rfl
@[simp] theorem State.setRepMode_halt (s : State) (v : RepMode) : (s.setRepMode v).halt = s.halt := rfl
@[simp] theorem State.setFirstIp_halt (s : State) (v : Word) : (s.setFirstIp v).halt = s.halt := rfl
@[simp] theorem State.setMem_halt (s : State) (v : Memory) : (s.setMem v).halt = s.halt := rfl
@[simp] theorem State.setRo_halt (s : State) (v : RoMap) : (s.setRo v).halt = s.halt := rfl
@[simp] theorem State.setPic_halt (s : State) (v : Pic) : (s.setPic v).halt = s.halt := rfl
@[simp] theorem State.setPit_halt (s : State) (v : Pit) : (s.setPit v).halt = s.halt := rfl
@[simp] theorem State.setDma_halt (s : State) (v : Dma) : (s.setDma v).halt = s.halt := rfl
@[simp] theorem State.setPorts_halt (s : State) (v : List PortRange) : (s.setPorts v).halt = s.halt := rfl
@[simp] theorem State.setSched_halt (s : State) (v : Scheduler) : (s.setSched v).halt = s.halt := rfl
@[simp] theorem State.setInstrCount_halt (s : State) (v : Nat) : (s.setInstrCount v).halt = s.halt := rfl
@[simp] theorem State.setRunning_halt (s : State) (v : Bool) : (s.setRunning v).halt = s.halt := rfl
@[simp] theorem State.setDraws_halt (s : State) (v : Nat) : (s.setDraws v).halt = s.halt := rfl
@[simp] theorem State.setEvents_halt (s : State) (v : List (List Event)) : (s.setEvents v).halt = s.halt := rfl
@[simp] theorem State.setOutputs_halt (s : State) (v : List Output) : (s.setOutputs v).halt = s.halt := rfl
@[simp] theorem State.setRegs_trapLatch (s : State) (v : Regs) : (s.setRegs v).trapLatch = s.trapLatch := rfl
@[simp] theorem State.setSegs_trapLatch (s : State) (v : SegRegs) : (s.setSegs v).trapLatch = s.trapLatch := rfl
@[simp] theorem State.setIp_trapLatch (s : State) (v : Word) : (s.setIp v).trapLatch = s.trapLatch := rfl
@[simp] theorem State.setFlags_trapLatch (s : State) (v : Flags) : (s.setFlags v).trapLatch = s.trapLatch := rfl
@[simp] theorem State.setHalt_trapLatch (s : State) (v : Bool) : (s.setHalt v).trapLatch = s.trapLatch := rfl
@[simp] theorem State.setTrapLatch_trapLatch (s : State) (v : Bool) : (s.setTrapLatch v).trapLatch = v := rfl
@[simp] theorem State.setSegOverride_trapLatch (s : State) (v : Option SReg) : (s.setSegOverride v).trapLatch = s.trapLatch := rfl
@[simp] theorem State.setRepMode_trapLatch (s : State) (v : RepMode) : (s.setRepMode v).trapLatch = s.trapLatch := rfl
@[simp] theorem State.setFirstIp_trapLatch (s : State) (v : Word) : (s.setFirstIp v).trapLatch = s.trapLatch := rfl
@[simp] theorem State.setMem_trapLatch (s : State) (v : Memory) : (s.setMem v).trapLatch = s.trapLatch := rfl
@[simp] theorem State.setRo_trapLatch (s : State) (v : RoMap) : (s.setRo v).trapLatch = s.trapLatch := rfl
@[simp] theorem State.setPic_trapLatch (s : State) (v : Pic) : (s.setPic v).trapLatch = s.trapLatch := rfl
@[simp] theorem State.setPit_trapLatch (s : State) (v : Pit) : (s.setPit v).trapLatch = s.trapLatch := rfl
@[simp] theorem State.setDma_trapLatch (s : State) (v : Dma) : (s.setDma v).trapLatch = s.trapLatch := rfl
@[simp] theorem State.setPorts_trapLatch (s : State) (v : List PortRange) : (s.setPorts v).trapLatch = s.trapLatch := rfl
@[simp] theorem State.setSched_trapLatch (s : State) (v : Scheduler) : (s.setSched v).trapLatch = s.trapLatch := rfl
@[simp] theorem State.setInstrCount_trapLatch (s : State) (v : Nat) : (s.setInstrCount v).trapLatch = s.trapLatch := rfl
@[simp] theorem State.setRunning_trapLatch (s : State) (v : Bool) : (s.setRunning v).trapLatch = s.trapLatch := rfl
@[simp] theorem State.setDraws_trapLatch (s : State) (v : Nat) : (s.setDraws v).trapLatch = s.trapLatch := rfl
@[simp] theorem State.setEvents_trapLatch (s : State) (v : List (List Event)) : (s.setEvents v).trapLatch = s.trapLatch := rfl
@[simp] theorem State.setOutputs_trapLatch (s : State) (v : List Output) : (s.setOutputs v).trapLatch = s.trapLatch := rfl
@[simp] theorem State.setRegs_segOverride (s : State) (v : Regs) : (s.setRegs v).segOverride = s.segOverride := rfl
@[simp] theorem State.setSegs_segOverride (s : State) (v : SegRegs) : (s.setSegs v).segOverride = s.segOverride := rfl
@[simp] theorem State.setIp_segOverride (s : State) (v : Word) : (s.setIp v).segOverride = s.segOverride := rfl
@[simp] theorem State.setFlags_segOverride (s : State) (v : Flags) : (s.setFlags v).segOverride = s.segOverride := rfl
@[simp] theorem State.setHalt_segOverride (s : State) (v : Bool) : (s.setHalt v).segOverride = s.segOverride := rfl
@[simp] theorem State.setTrapLatch_segOverride (s : State) (v : Bool) : (s.setTrapLatch v).segOverride = s.segOverride := rfl
@[simp] theorem State.setSegOverride_segOverride (s : State) (v : Option SReg) : (s.setSegOverride v).segOverride = v := rfl
@[simp] theorem State.setRepMode_segOverride (s : State) (v : RepMode) : (s.setRepMode v).segOverride = s.segOverride := rfl
@[simp] theorem State.setFirstIp_segOverride (s : State) (v : Word) : (s.setFirstIp v).segOverride = s.segOverride := rfl
@[simp] theorem State.setMem_segOverride (s : State) (v : Memory) : (s.setMem v).segOverride = s.segOverride := rfl
@[simp] theorem State.setRo_segOverride (s : State) (v : RoMap) : (s.setRo v).segOverride = s.segOverride := rfl
@[simp] theorem State.setPic_segOverride (s : State) (v : Pic) : (s.setPic v).segOverride = s.segOverride := rfl
@[simp] theorem State.setPit_segOverride (s : State) (v : Pit) : (s.setPit v).segOverride = s.segOverride := rfl
@[simp] theorem State.setDma_segOverride (s : State) (v : Dma) : (s.setDma v).segOverride = s.segOverride := rfl
@[simp] theorem State.setPorts_segOverride (s : State) (v : List PortRange) : (s.setPorts v).segOverride = s.segOverride := rfl
@[simp] theorem State.setSched_segOverride (s : State) (v : Scheduler) : (s.setSched v).segOverride = s.segOverride := rfl
@[simp] theorem State.setInstrCount_segOverride (s : State) (v : Nat) : (s.setInstrCount v).segOverride = s.segOverride := rfl
@[simp] theorem State.setRunning_segOverride (s : State) (v : Bool) : (s.setRunning v).segOverride = s.segOverride := rfl
@[simp] theorem State.setDraws_segOverride (s : State) (v : Nat) : (s.setDraws v).segOverride = s.segOverride := rfl
@[simp] theorem State.setEvents_segOverride (s : State) (v : List (List Event)) : (s.setEvents v).segOverride = s.segOverride := rfl
@[simp] theorem State.setOutputs_segOverride (s : State) (v : List Output) : (s.setOutputs v).segOverride = s.segOverride := rfl
@[simp] theorem State.setRegs_repMode (s : State) (v : Regs) : (s.setRegs v).repMode = s.repMode := rfl
@[simp] theorem State.setSegs_repMode (s : State) (v : SegRegs) : (s.setSegs v).repMode = s.repMode := rfl
@[simp] theorem State.setIp_repMode (s : State) (v : Word) : (s.setIp v).repMode = s.repMode := rfl
@[simp] theorem State.setFlags_repMode (s : State) (v : Flags) : (s.setFlags v).repMode = s.repMode := rfl
@[simp] theorem State.setHalt_repMode (s : State) (v : Bool) : (s.setHalt v).repMode = s.repMode := rfl
@[simp] theorem State.setTrapLatch_repMode (s : State) (v : Bool) : (s.setTrapLatch v).repMode = s.repMode := rfl
@[simp] theorem State.setSegOverride_repMode (s : State) (v : Option SReg) : (s.setSegOverride v).repMode = s.repMode := rfl
@[simp] theorem State.setRepMode_repMode (s : State) (v : RepMode) : (s.setRepMode v).repMode = v := rfl
@[simp] theorem State.setFirstIp_repMode (s : State) (v : Word) : (s.setFirstIp v).repMode = s.repMode := rfl
@[simp] theorem State.setMem_repMode (s : State) (v : Memory) : (s.setMem v).repMode = s.repMode := rfl
@[simp] theorem State.setRo_repMode (s : State) (v : RoMap) : (s.setRo v).repMode = s.repMode := rfl
@[simp] theorem State.setPic_repMode (s : State) (v : Pic) : (s.setPic v).repMode = s.repMode := rfl
@[simp] theorem State.setPit_repMode (s : State) (v : Pit) : (s.setPit v).repMode = s.repMode := rfl
@[simp] theorem State.setDma_repMode (s : State) (v : Dma) : (s.setDma v).repMode = s.repMode := rfl
@[simp] theorem State.setPorts_repMode (s : State) (v : List PortRange) : (s.setPorts v).repMode = s.repMode := rfl
@[simp] theorem State.setSched_repMode (s : State) (v : Scheduler) : (s.setSched v).repMode = s.repMode := rfl
@[simp] theorem State.setInstrCount_repMode (s : State) (v : Nat) : (s.setInstrCount v).repMode = s.repMode := rfl
@[simp] theorem State.setRunning_repMode (s : State) (v : Bool) : (s.setRunning v).repMode = s.repMode := rfl
@[simp] theorem State.setDraws_repMode (s : State) (v : Nat) : (s.setDraws v).repMode = s.repMode := rfl
@[simp] theorem State.setEvents_repMode (s : State) (v : List (List Event)) : (s.setEvents v).repMode = s.repMode := rfl
@[simp] theorem State.setOutputs_repMode (s : State) (v : List Output) : (s.setOutputs v).repMode = s.repMode := rfl
@[simp] theorem State.setRegs_firstIp (s : State) (v : Regs) : (s.setRegs v).firstIp = s.firstIp := rfl
@[simp] theorem State.setSegs_firstIp (s : State) (v : SegRegs) : (s.setSegs v).firstIp = s.firstIp := rfl
@[simp] theorem State.setIp_firstIp (s : State) (v : Word) : (s.setIp v).firstIp = s.firstIp := rfl
@[simp] theorem State.setFlags_firstIp (s : State) (v : Flags) : (s.setFlags v).firstIp = s.firstIp := rfl
@[simp] theorem State.setHalt_firstIp (s : State) (v : Bool) : (s.setHalt v).firstIp = s.firstIp := rfl
@[simp] theorem State.setTrapLatch_firstIp (s : State) (v : Bool) : (s.setTrapLatch v).firstIp = s.firstIp := rfl
@[simp] theorem State.setSegOverride_firstIp (s : State) (v : Option SReg) : (s.setSegOverride v).firstIp = s.firstIp := rfl
@[simp] theorem State.setRepMode_firstIp (s : State) (v : RepMode) : (s.setRepMode v).firstIp = s.firstIp := rfl
@[simp] theorem State.setFirstIp_firstIp (s : State) (v : Word) : (s.setFirstIp v).firstIp = v := rfl
@[simp] theorem State.setMem_firstIp (s : State) (v : Memory) : (s.setMem v).firstIp = s.firstIp := rfl
@[simp] theorem State.setRo_firstIp (s : State) (v : RoMap) : (s.setRo v).firstIp = s.firstIp := rfl
@[simp] theorem State.setPic_firstIp (s : State) (v : Pic) : (s.setPic v).firstIp = s.firstIp := rfl
@[simp] theorem State.setPit_firstIp (s : State) (v : Pit) : (s.setPit v).firstIp = s.firstIp := rfl
@[simp] theorem State.setDma_firstIp (s : State) (v : Dma) : (s.setDma v).firstIp = s.firstIp := rfl
@[simp] theorem State.setPorts_firstIp (s : State) (v : List PortRange) : (s.setPorts v).firstIp = s.firstIp := rfl
@[simp] theorem State.setSched_firstIp (s : State) (v : Scheduler) : (s.setSched v).firstIp = s.firstIp := rfl
@[simp] theorem State.setInstrCount_firstIp (s : State) (v : Nat) : (s.setInstrCount v).firstIp = s.firstIp := rfl
@[simp] theorem State.setRunning_firstIp (s : State) (v : Bool) : (s.setRunning v).firstIp = s.firstIp := rfl
@[simp] theorem State.setDraws_firstIp (s : State) (v : Nat) : (s.setDraws v).firstIp = s.firstIp := rfl
@[simp] theorem State.setEvents_firstIp (s : State) (v : List (List Event)) : (s.setEvents v).firstIp = s.firstIp := rfl
@[simp] theorem State.setOutputs_firstIp (s : State) (v : List Output) : (s.setOutputs v).firstIp = s.firstIp := rfl
@[simp] theorem State.setRegs_mem (s : State) (v : Regs) : (s.setRegs v).mem = s.mem := rfl
@[simp] theorem State.setSegs_mem (s : State) (v : SegRegs) : (s.setSegs v).mem = s.mem := rfl
@[simp] theorem State.setIp_mem (s : State) (v : Word) : (s.setIp v).mem = s.mem := rfl
@[simp] theorem State.setFlags_mem (s : State) (v : Flags) : (s.setFlags v).mem = s.mem := rfl
@[simp] theorem State.setHalt_mem (s : State) (v : Bool) : (s.setHalt v).mem = s.mem := rfl
@[simp] theorem State.setTrapLatch_mem (s : State) (v : Bool) : (s.setTrapLatch v).mem = s.mem := rfl
@[simp] theorem State.setSegOverride_mem (s : State) (v : Option SReg) : (s.setSegOverride v).mem = s.mem := rfl
@[simp] theorem State.setRepMode_mem (s : State) (v : RepMode) : (s.setRepMode v).mem = s.mem := rfl
@[simp] theorem State.setFirstIp_mem (s : State) (v : Word) : (s.setFirstIp v).mem = s.mem := rfl
@[simp] theorem State.setMem_mem (s : State) (v : Memory) : (s.setMem v).mem = v := rfl
@[simp] theorem State.setRo_mem (s : State) (v : RoMap) : (s.setRo v).mem = s.mem := rfl
@[simp] theorem State.setPic_mem (s : State) (v : Pic) : (s.setPic v).mem = s.mem := rfl
@[simp] theorem State.setPit_mem (s : State) (v : Pit) : (s.setPit v).mem = s.mem := rfl
@[simp] theorem State.setDma_mem (s : State) (v : Dma) : (s.setDma v).mem = s.mem := rfl
@[simp] theorem State.setPorts_mem (s : State) (v : List PortRange) : (s.setPorts v).mem = s.mem := rfl
@[simp] theorem State.setSched_mem (s : State) (v : Scheduler) : (s.setSched v).mem = s.mem := rfl
@[simp] theorem State.setInstrCount_mem (s : State) (v : Nat) : (s.setInstrCount v).mem = s.mem := rfl
@[simp] theorem State.setRunning_mem (s : State) (v : Bool) : (s.setRunning v).mem = s.mem := rfl
@[simp] theorem State.setDraws_mem (s : State) (v : Nat) : (s.setDraws v).mem = s.mem := rfl
@[simp] theorem State.setEvents_mem (s : State) (v : List (List Event)) : (s.setEvents v).mem = s.mem := rfl
@[simp] theorem State.setOutputs_mem (s : State) (v : List Output) : (s.setOutputs v).mem = s.mem := rfl
@[simp] theorem State.setRegs_ro (s : State) (v : Regs) : (s.setRegs v).ro = s.ro := rfl
@[simp] theorem State.setSegs_ro (s : State) (v : SegRegs) : (s.setSegs v).ro = s.ro := rfl
@[simp] theorem State.setIp_ro (s : State) (v : Word) : (s.setIp v).ro = s.ro := rfl
@[simp] theorem State.setFlags_ro (s : State) (v : Flags) : (s.setFlags v).ro = s.ro := rfl
@[simp] theorem State.setHalt_ro (s : State) (v : Bool) : (s.setHalt v).ro = s.ro := rfl
@[simp] theorem State.setTrapLatch_ro (s : State) (v : Bool) : (s.setTrapLatch v).ro = s.ro := rfl
@[simp] theorem State.setSegOverride_ro (s : State) (v : Option SReg) : (s.setSegOverride v).ro = s.ro := rfl
@[simp] theorem State.setRepMode_ro (s : State) (v : RepMode) : (s.setRepMode v).ro = s.ro := rfl
@[simp] theorem State.setFirstIp_ro (s : State) (v : Word) : (s.setFirstIp v).ro = s.ro := rfl
@[simp] theorem State.setMem_ro (s : State) (v : Memory) : (s.setMem v).ro = s.ro := rfl
@[simp] theorem State.setRo_ro (s : State) (v : RoMap) : (s.setRo v).ro = v := rfl
@[simp] theorem State.setPic_ro (s : State) (v : Pic) : (s.setPic v).ro = s.ro := rfl
@[simp] theorem State.setPit_ro (s : State) (v : Pit) : (s.setPit v).ro = s.ro := rfl
@[simp] theorem State.setDma_ro (s : State) (v : Dma) : (s.setDma v).ro = s.ro := rfl
@[simp] theorem State.setPorts_ro (s : State) (v : List PortRange) : (s.setPorts v).ro = s.ro := rfl
@[simp] theorem State.setSched_ro (s : State) (v : Scheduler) : (s.setSched v).ro = s.ro := rfl
@[simp] theorem State.setInstrCount_ro (s : State) (v : Nat) : (s.setInstrCount v).ro = s.ro := rfl
@[simp] theorem State.setRunning_ro (s : State) (v : Bool) : (s.setRunning v).ro = s.ro := rfl
@[simp] theorem State.setDraws_ro (s : State) (v : Nat) : (s.setDraws v).ro = s.ro := rfl
@[simp] theorem State.setEvents_ro (s : State) (v : List (List Event)) : (s.setEvents v).ro = s.ro := rfl
@[simp] theorem State.setOutputs_ro (s : State) (v : List Output) : (s.setOutputs v).ro = s.ro := rfl
@[simp] theorem State.setRegs_pic (s : State) (v : Regs) : (s.setRegs v).pic = s.pic := rfl
@[simp] theorem State.setSegs_pic (s : State) (v : SegRegs) : (s.setSegs v).pic = s.pic := rfl
@[simp] theorem State.setIp_pic (s : State) (v : Word) : (s.setIp v).pic = s.pic := rfl
@[simp] theorem State.setFlags_pic (s : State) (v : Flags) : (s.setFlags v).pic = s.pic := rfl
@[simp] theorem State.setHalt_pic (s : State) (v : Bool) : (s.setHalt v).pic = s.pic := rfl
@[simp] theorem State.setTrapLatch_pic (s : State) (v : Bool) : (s.setTrapLatch v).pic = s.pic := rfl
@[simp] theorem State.setSegOverride_pic (s : State) (v : Option SReg) : (s.setSegOverride v).pic = s.pic := rfl
@[simp] theorem State.setRepMode_pic (s : State) (v : RepMode) : (s.setRepMode v).pic = s.pic := rfl
@[simp] theorem State.setFirstIp_pic (s : State) (v : Word) : (s.setFirstIp v).pic = s.pic := rfl
@[simp] theorem State.setMem_pic (s : State) (v : Memory) : (s.setMem v).pic = s.pic := rfl
@[simp] theorem State.setRo_pic (s : State) (v : RoMap) : (s.setRo v).pic = s.pic := rfl
@[simp] theorem State.setPic_pic (s : State) (v : Pic) : (s.setPic v).pic = v := rfl
@[simp] theorem State.setPit_pic (s : State) (v : Pit) : (s.setPit v).pic = s.pic := rfl
@[simp] theorem State.setDma_pic (s : State) (v : Dma) : (s.setDma v).pic = s.pic := rfl
@[simp] theorem State.setPorts_pic (s : State) (v : List PortRange) : (s.setPorts v).pic = s.pic := rfl
@[simp] theorem State.setSched_pic (s : State) (v : Scheduler) : (s.setSched v).pic = s.pic := rfl
@[simp] theorem State.setInstrCount_pic (s : State) (v : Nat) : (s.setInstrCount v).pic = s.pic := rfl
@[simp] theorem State.setRunning_pic (s : State) (v : Bool) : (s.setRunning v).pic = s.pic := rfl
@[simp] theorem State.setDraws_pic (s : State) (v : Nat) : (s.setDraws v).pic = s.pic := rfl
@[simp] theorem State.setEvents_pic (s : State) (v : List (List Event)) : (s.setEvents v).pic = s.pic := rfl
@[simp] theorem State.setOutputs_pic (s : State) (v : List Output) : (s.setOutputs v).pic = s.pic := rfl
@[simp] theorem State.setRegs_pit (s : State) (v : Regs) : (s.setRegs v).pit = s.pit := rfl
@[simp] theorem State.setSegs_pit (s : State) (v : SegRegs) : (s.setSegs v).pit = s.pit := rfl
@[simp] theorem State.setIp_pit (s : State) (v : Word) : (s.setIp v).pit = s.pit := rfl
@[simp] theorem State.setFlags_pit (s : State) (v : Flags) : (s.setFlags v).pit = s.pit := rfl
@[simp] theorem State.setHalt_pit (s : State) (v : Bool) : (s.setHalt v).pit = s.pit := rfl
@[simp] theorem State.setTrapLatch_pit (s : State) (v : Bool) : (s.setTrapLatch v).pit = s.pit := rfl
@[simp] theorem State.setSegOverride_pit (s : State) (v : Option SReg) : (s.setSegOverride v).pit = s.pit := rfl
@[simp] theorem State.setRepMode_pit (s : State) (v : RepMode) : (s.setRepMode v).pit = s.pit := rfl
@[simp] theorem State.setFirstIp_pit (s : State) (v : Word) : (s.setFirstIp v).pit = s.pit := rfl
@[simp] theorem State.setMem_pit (s : State) (v : Memory) : (s.setMem v).pit = s.pit := rfl
@[simp] theorem State.setRo_pit (s : State) (v : RoMap) : (s.setRo v).pit = s.pit := rfl
@[simp] theorem State.setPic_pit (s : State) (v : Pic) : (s.setPic v).pit = s.pit := rfl
@[simp] theorem State.setPit_pit (s : State) (v : Pit) : (s.setPit v).pit = v := rfl
@[simp] theorem State.setDma_pit (s : State) (v : Dma) : (s.setDma v).pit = s.pit := rfl
@[simp] theorem State.setPorts_pit (s : State) (v : List PortRange) : (s.setPorts v).pit = s.pit := rfl
@[simp] theorem State.setSched_pit (s : State) (v : Scheduler) : (s.setSched v).pit = s.pit := rfl
@[simp] theorem State.setInstrCount_pit (s : State) (v : Nat) : (s.setInstrCount v).pit = s.pit := rfl
@[simp] theorem State.setRunning_pit (s : State) (v : Bool) : (s.setRunning v).pit = s.pit := rfl
@[simp] theorem State.setDraws_pit (s : State) (v : Nat) : (s.setDraws v).pit = s.pit := rfl
@[simp] theorem State.setEvents_pit (s : State) (v : List (List Event)) : (s.setEvents v).pit = s.pit := rfl
@[simp] theorem State.setOutputs_pit (s : State) (v : List Output) : (s.setOutputs v).pit = s.pit := rfl
@[simp] theorem State.setRegs_dma (s : State) (v : Regs) : (s.setRegs v).dma = s.dma := rfl
@[simp] theorem State.setSegs_dma (s : State) (v : SegRegs) : (s.setSegs v).dma = s.dma := rfl
@[simp] theorem State.setIp_dma (s : State) (v : Word) : (s.setIp v).dma = s.dma := rfl
@[simp] theorem State.setFlags_dma (s : State) (v : Flags) : (s.setFlags v).dma = s.dma := rfl
@[simp] theorem State.setHalt_dma (s : State) (v : Bool) : (s.setHalt v).dma = s.dma := rfl
@[simp] theorem State.setTrapLatch_dma (s : State) (v : Bool) : (s.setTrapLatch v).dma = s.dma := rfl
@[simp] theorem State.setSegOverride_dma (s : State) (v : Option SReg) : (s.setSegOverride v).dma = s.dma := rfl
@[simp] theorem State.setRepMode_dma (s : State) (v : RepMode) : (s.setRepMode v).dma = s.dma := rfl
@[simp] theorem State.setFirstIp_dma (s : State) (v : Word) : (s.setFirstIp v).dma = s.dma := rfl
@[simp] theorem State.setMem_dma (s : State) (v : Memory) : (s.setMem v).dma = s.dma := rfl
@[simp] theorem State.setRo_dma (s : State) (v : RoMap) : (s.setRo v).dma = s.dma := rfl
@[simp] theorem State.setPic_dma (s : State) (v : Pic) : (s.setPic v).dma = s.dma := rfl
@[simp] theorem State.setPit_dma (s : State) (v : Pit) : (s.setPit v).dma = s.dma := rfl
@[simp] theorem State.setDma_dma (s : State) (v : Dma) : (s.setDma v).dma = v := rfl
@[simp] theorem State.setPorts_dma (s : State) (v : List PortRange) : (s.setPorts v).dma = s.dma := rfl
@[simp] theorem State.setSched_dma (s : State) (v : Scheduler) : (s.setSched v).dma = s.dma := rfl
@[simp] theorem State.setInstrCount_dma (s : State) (v : Nat) : (s.setInstrCount v).dma = s.dma := rfl
@[simp] theorem State.setRunning_dma (s : State) (v : Bool) : (s.setRunning v).dma = s.dma := rfl
@[simp] theorem State.setDraws_dma (s : State) (v : Nat) : (s.setDraws v).dma = s.dma := rfl
@[simp] theorem State.setEvents_dma (s : State) (v : List (List Event)) : (s.setEvents v).dma = s.dma := rfl
@[simp] theorem State.setOutputs_dma (s : State) (v : List Output) : (s.setOutputs v).dma = s.dma := rfl
@[simp] theorem State.setRegs_ports (s : State) (v : Regs) : (s.setRegs v).ports = s.ports := rfl
@[simp] theorem State.setSegs_ports (s : State) (v : SegRegs) : (s.setSegs v).ports = s.ports := rfl
@[simp] theorem State.setIp_ports (s : State) (v : Word) : (s.setIp v).ports = s.ports := rfl
@[simp] theorem State.setFlags_ports (s : State) (v : Flags) : (s.setFlags v).ports = s.ports := rfl
@[simp] theorem State.setHalt_ports (s : State) (v : Bool) : (s.setHalt v).ports = s.ports := rfl
@[simp] theorem State.setTrapLatch_ports (s : State) (v : Bool) : (s.setTrapLatch v).ports = s.ports := rfl
@[simp] theorem State.setSegOverride_ports (s : State) (v : Option SReg) : (s.setSegOverride v).ports = s.ports := rfl
@[simp] theorem State.setRepMode_ports (s : State) (v : RepMode) : (s.setRepMode v).ports = s.ports := rfl
@[simp] theorem State.setFirstIp_ports (s : State) (v : Word) : (s.setFirstIp v).ports = s.ports := rfl
@[simp] theorem State.setMem_ports (s : State) (v : Memory) : (s.setMem v).ports = s.ports := rfl
@[simp] theorem State.setRo_ports (s : State) (v : RoMap) : (s.setRo v).ports = s.ports := rfl
@[simp] theorem State.setPic_ports (s : State) (v : Pic) : (s.setPic v).ports = s.ports := rfl
@[simp] theorem State.setPit_ports (s : State) (v : Pit) : (s.setPit v).ports = s.ports := rfl
@[simp] theorem State.setDma_ports (s : State) (v : Dma) : (s.setDma v).ports = s.ports := rfl
@[simp] theorem State.setPorts_ports (s : State) (v : List PortRange) : (s.setPorts v).ports = v := rfl
@[simp] theorem State.setSched_ports (s : State) (v : Scheduler) : (s.setSched v).ports = s.ports := rfl
@[simp] theorem State.setInstrCount_ports (s : State) (v : Nat) : (s.setInstrCount v).ports = s.ports := rfl
@[simp] theorem State.setRunning_ports (s : State) (v : Bool) : (s.setRunning v).ports = s.ports := rfl
@[simp] theorem State.setDraws_ports (s : State) (v : Nat) : (s.setDraws v).ports = s.ports := rfl
@[simp] theorem State.setEvents_ports (s : State) (v : List (List Event)) : (s.setEvents v).ports = s.ports := rfl
@[simp] theorem State.setOutputs_ports (s : State) (v : List Output) : (s.setOutputs v).ports = s.ports := rfl
@[simp] theorem State.setRegs_sched (s : State) (v : Regs) : (s.setRegs v).sched = s.sched := rfl
@[simp] theorem State.setSegs_sched (s : State) (v : SegRegs) : (s.setSegs v).sched = s.sched := rfl
@[simp] theorem State.setIp_sched (s : State) (v : Word) : (s.setIp v).sched = s.sched := rfl
@[simp] theorem State.setFlags_sched (s : State) (v : Flags) : (s.setFlags v).sched = s.sched := rfl
@[simp] theorem State.setHalt_sched (s : State) (v : Bool) : (s.setHalt v).sched = s.sched := rfl
@[simp] theorem State.setTrapLatch_sched (s : State) (v : Bool) : (s.setTrapLatch v).sched = s.sched := rfl
@[simp] theorem State.setSegOverride_sched (s : State) (v : Option SReg) : (s.setSegOverride v).sched = s.sched := rfl
@[simp] theorem State.setRepMode_sched (s : State) (v : RepMode) : (s.setRepMode v).sched = s.sched := rfl
@[simp] theorem State.setFirstIp_sched (s : State) (v : Word) : (s.setFirstIp v).sched = s.sched := rfl
@[simp] theorem State.setMem_sched (s : State) (v : Memory) : (s.setMem v).sched = s.sched := rfl
@[simp] theorem State.setRo_sched (s : State) (v : RoMap) : (s.setRo v).sched = s.sched := rfl
@[simp] theorem State.setPic_sched (s : State) (v : Pic) : (s.setPic v).sched = s.sched := rfl
@[simp] theorem State.setPit_sched (s : State) (v : Pit) : (s.setPit v).sched = s.sched := rfl
@[simp] theorem State.setDma_sched (s : State) (v : Dma) : (s.setDma v).sched = s.sched := rfl
@[simp] theorem State.setPorts_sched (s : State) (v : List PortRange) : (s.setPorts v).sched = s.sched := rfl
@[simp] theorem State.setSched_sched (s : State) (v : Scheduler) : (s.setSched v).sched = v := rfl
@[simp] theorem State.setInstrCount_sched (s : State) (v : Nat) : (s.setInstrCount v).sched = s.sched := rfl
@[simp] theorem State.setRunning_sched (s : State) (v : Bool) : (s.setRunning v).sched = s.sched := rfl
@[simp] theorem State.setDraws_sched (s : State) (v : Nat) : (s.setDraws v).sched = s.sched := rfl
@[simp] theorem State.setEvents_sched (s : State) (v : List (List Event)) : (s.setEvents v).sched = s.sched := rfl
@[simp] theorem State.setOutputs_sched (s : State) (v : List Output) : (s.setOutputs v).sched = s.sched := rfl
@[simp] theorem State.setRegs_instrCount (s : State) (v : Regs) : (s.setRegs v).instrCount = s.instrCount := rfl
@[simp] theorem State.setSegs_instrCount (s : State) (v : SegRegs) : (s.setSegs v).instrCount = s.instrCount := rfl
@[simp] theorem State.setIp_instrCount (s : State) (v : Word) : (s.setIp v).instrCount = s.instrCount := rfl
@[simp] theorem State.setFlags_instrCount (s : State) (v : Flags) : (s.setFlags v).instrCount = s.instrCount := rfl
@[simp] theorem State.setHalt_instrCount (s : State) (v : Bool) : (s.setHalt v).instrCount = s.instrCount := rfl
@[simp] theorem State.setTrapLatch_instrCount (s : State) (v : Bool) : (s.setTrapLatch v).instrCount = s.instrCount := rfl
@[simp] theorem State.setSegOverride_instrCount (s : State) (v : Option SReg) : (s.setSegOverride v).instrCount = s.instrCount := rfl
@[simp] theorem State.setRepMode_instrCount (s : State) (v : RepMode) : (s.setRepMode v).instrCount = s.instrCount := rfl
@[simp] theorem State.setFirstIp_instrCount (s : State) (v : Word) : (s.setFirstIp v).instrCount = s.instrCount := rfl
@[simp] theorem State.setMem_instrCount (s : State) (v : Memory) : (s.setMem v).instrCount = s.instrCount := rfl
@[simp] theorem State.setRo_instrCount (s : State) (v : RoMap) : (s.setRo v).instrCount = s.instrCount := rfl
@[simp] theorem State.setPic_instrCount (s : State) (v : Pic) : (s.setPic v).instrCount = s.instrCount := rfl
@[simp] theorem State.setPit_instrCount (s : State) (v : Pit) : (s.setPit v).instrCount = s.instrCount := rfl
@[simp] theorem State.setDma_instrCount (s : State) (v : Dma) : (s.setDma v).instrCount = s.instrCount := rfl
@[simp] theorem State.setPorts_instrCount (s : State) (v : List PortRange) : (s.setPorts v).instrCount = s.instrCount := rfl
@[simp] theorem State.setSched_instrCount (s : State) (v : Scheduler) : (s.setSched v).instrCount = s.instrCount := rfl
@[simp] theorem State.setInstrCount_instrCount (s : State) (v : Nat) : (s.setInstrCount v).instrCount = v := rfl
@[simp] theorem State.setRunning_instrCount (s : State) (v : Bool) : (s.setRunning v).instrCount = s.instrCount := rfl
@[simp] theorem State.setDraws_instrCount (s : State) (v : Nat) : (s.setDraws v).instrCount = s.instrCount := rfl
@[simp] theorem State.setEvents_instrCount (s : State) (v : List (List Event)) : (s.setEvents v).instrCount = s.instrCount := rfl
@[simp] theorem State.setOutputs_instrCount (s : State) (v : List Output) : (s.setOutputs v).instrCount = s.instrCount := rfl
@[simp] theorem State.setRegs_running (s : State) (v : Regs) : (s.setRegs v).running = s.running := rfl
@[simp] theorem State.setSegs_running (s : State) (v : SegRegs) : (s.setSegs v).running = s.running := rfl
@[simp] theorem State.setIp_running (s : State) (v : Word) : (s.setIp v).running = s.running := rfl
@[simp] theorem State.setFlags_running (s : State) (v : Flags) : (s.setFlags v).running = s.running := rfl
@[simp] theorem State.setHalt_running (s : State) (v : Bool) : (s.setHalt v).running = s.running := rfl
@[simp] theorem State.setTrapLatch_running (s : State) (v : Bool) : (s.setTrapLatch v).running = s.running := rfl
@[simp] theorem State.setSegOverride_running (s : State) (v : Option SReg) : (s.setSegOverride v).running = s.running := rfl
@[simp] theorem State.setRepMode_running (s : State) (v : RepMode) : (s.setRepMode v).running = s.running := rfl
@[simp] theorem State.setFirstIp_running (s : State) (v : Word) : (s.setFirstIp v).running = s.running := rfl
@[simp] theorem State.setMem_running (s : State) (v : Memory) : (s.setMem v).running = s.running := rfl
@[simp] theorem State.setRo_running (s : State) (v : RoMap) : (s.setRo v).running = s.running := rfl
@[simp] theorem State.setPic_running (s : State) (v : Pic) : (s.setPic v).running = s.running := rfl
@[simp] theorem State.setPit_running (s : State) (v : Pit) : (s.setPit v).running = s.running := rfl
@[simp] theorem State.setDma_running (s : State) (v : Dma) : (s.setDma v).running = s.running := rfl
@[simp] theorem State.setPorts_running (s : State) (v : List PortRange) : (s.setPorts v).running = s.running := rfl
@[simp] theorem State.setSched_running (s : State) (v : Scheduler) : (s.setSched v).running = s.running := rfl
@[simp] theorem State.setInstrCount_running (s : State) (v : Nat) : (s.setInstrCount v).running = s.running := rfl
@[simp] theorem State.setRunning_running (s : State) (v : Bool) : (s.setRunning v).running = v := rfl
@[simp] theorem State.setDraws_running (s : State) (v : Nat) : (s.setDraws v).running = s.running := rfl
@[simp] theorem State.setEvents_running (s : State) (v : List (List Event)) : (s.setEvents v).running = s.running := rfl
@[simp] theorem State.setOutputs_running (s : State) (v : List Output) : (s.setOutputs v).running = s.running := rfl
@[simp] theorem State.setRegs_draws (s : State) (v : Regs) : (s.setRegs v).draws = s.draws := rfl
@[simp] theorem State.setSegs_draws (s : State) (v : SegRegs) : (s.setSegs v).draws = s.draws := rfl
@[simp] theorem State.setIp_draws (s : State) (v : Word) : (s.setIp v).draws = s.draws := rfl
@[simp] theorem State.setFlags_draws (s : State) (v : Flags) : (s.setFlags v).draws = s.draws := rfl
@[simp] theorem State.setHalt_draws (s : State) (v : Bool) : (s.setHalt v).draws = s.draws := rfl
@[simp] theorem State.setTrapLatch_draws (s : State) (v : Bool) : (s.setTrapLatch v).draws = s.draws := rfl
@[simp] theorem State.setSegOverride_draws (s : State) (v : Option SReg) : (s.setSegOverride v).draws = s.draws := rfl
@[simp] theorem State.setRepMode_draws (s : State) (v : RepMode) : (s.setRepMode v).draws = s.draws := rfl
@[simp] theorem State.setFirstIp_draws (s : State) (v : Word) : (s.setFirstIp v).draws = s.draws := rfl
@[simp] theorem State.setMem_draws (s : State) (v : Memory) : (s.setMem v).draws = s.draws := rfl
@[simp] theorem State.setRo_draws (s : State) (v : RoMap) : (s.setRo v).draws = s.draws := rfl
@[simp] theorem State.setPic_draws (s : State) (v : Pic) : (s.setPic v).draws = s.draws := rfl
@[simp] theorem State.setPit_draws (s : State) (v : Pit) : (s.setPit v).draws = s.draws := rfl
@[simp] theorem State.setDma_draws (s : State) (v : Dma) : (s.setDma v).draws = s.draws := rfl
@[simp] theorem State.setPorts_draws (s : State) (v : List PortRange) : (s.setPorts v).draws = s.draws := rfl
@[simp] theorem State.setSched_draws (s : State) (v : Scheduler) : (s.setSched v).draws = s.draws := rfl
@[simp] theorem State.setInstrCount_draws (s : State) (v : Nat) : (s.setInstrCount v).draws = s.draws := rfl
@[simp] theorem State.setRunning_draws (s : State) (v : Bool) : (s.setRunning v).draws = s.draws := rfl
@[simp] theorem State.setDraws_draws (s : State) (v : Nat) : (s.setDraws v).draws = v := rfl
@[simp] theorem State.setEvents_draws (s : State) (v : List (List Event)) : (s.setEvents v).draws = s.draws := rfl
@[simp] theorem State.setOutputs_draws (s : State) (v : List Output) : (s.setOutputs v).draws = s.draws := rfl
@[simp] theorem State.setRegs_events (s : State) (v : Regs) : (s.setRegs v).events = s.events := rfl
@[simp] theorem State.setSegs_events (s : State) (v : SegRegs) : (s.setSegs v).events = s.events := rfl
@[simp] theorem State.setIp_events (s : State) (v : Word) : (s.setIp v).events = s.events := rfl
@[simp] theorem State.setFlags_events (s : State) (v : Flags) : (s.setFlags v).events = s.events := rfl
@[simp] theorem State.setHalt_events (s : State) (v : Bool) : (s.setHalt v).events = s.events := rfl
@[simp] theorem State.setTrapLatch_events (s : State) (v : Bool) : (s.setTrapLatch v).events = s.events := rfl
@[simp] theorem State.setSegOverride_events (s : State) (v : Option SReg) : (s.setSegOverride v).events = s.events := rfl
@[simp] theorem State.setRepMode_events (s : State) (v : RepMode) : (s.setRepMode v).events = s.events := rfl
@[simp] theorem State.setFirstIp_events (s : State) (v : Word) : (s.setFirstIp v).events = s.events := rfl
@[simp] theorem State.setMem_events (s : State) (v : Memory) : (s.setMem v).events = s.events := rfl
@[simp] theorem State.setRo_events (s : State) (v : RoMap) : (s.setRo v).events = s.events := rfl
@[simp] theorem State.setPic_events (s : State) (v : Pic) : (s.setPic v).events = s.events := rfl
@[simp] theorem State.setPit_events (s : State) (v : Pit) : (s.setPit v).events = s.events := rfl
@[simp] theorem State.setDma_events (s : State) (v : Dma) : (s.setDma v).events = s.events := rfl
@[simp] theorem State.setPorts_events (s : State) (v : List PortRange) : (s.setPorts v).events = s.events := rfl
@[simp] theorem State.setSched_events (s : State) (v : Scheduler) : (s.setSched v).events = s.events := rfl
@[simp] theorem State.setInstrCount_events (s : State) (v : Nat) : (s.setInstrCount v).events = s.events := rfl
@[simp] theorem State.setRunning_events (s : State) (v : Bool) : (s.setRunning v).events = s.events := rfl
@[simp] theorem State.setDraws_events (s : State) (v : Nat) : (s.setDraws v).events = s.events := rfl
@[simp] theorem State.setEvents_events (s : State) (v : List (List Event)) : (s.setEvents v).events = v := rfl
@[simp] theorem State.setOutputs_events (s : State) (v : List Output) : (s.setOutputs v).events = s.events := rfl
@[simp] theorem State.setRegs_outputs (s : State) (v : Regs) : (s.setRegs v).outputs = s.outputs := rfl
@[simp] theorem State.setSegs_outputs (s : State) (v : SegRegs) : (s.setSegs v).outputs = s.outputs := rfl
@[simp] theorem State.setIp_outputs (s : State) (v : Word) : (s.setIp v).outputs = s.outputs := rfl
@[simp] theorem State.setFlags_outputs (s : State) (v : Flags) : (s.setFlags v).outputs = s.outputs := rfl
@[simp] theorem State.setHalt_outputs (s : State) (v : Bool) : (s.setHalt v).outputs = s.outputs := rfl
@[simp] theorem State.setTrapLatch_outputs (s : State) (v : Bool) : (s.setTrapLatch v).outputs = s.outputs := rfl
@[simp] theorem State.setSegOverride_outputs (s : State) (v : Option SReg) : (s.setSegOverride v).outputs = s.outputs := rfl
@[simp] theorem State.setRepMode_outputs (s : State) (v : RepMode) : (s.setRepMode v).outputs = s.outputs := rfl
@[simp] theorem State.setFirstIp_outputs (s : State) (v : Word) : (s.setFirstIp v).outputs = s.outputs := rfl
@[simp] theorem State.setMem_outputs (s : State) (v : Memory) : (s.setMem v).outputs = s.outputs := rfl
@[simp] theorem State.setRo_outputs (s : State) (v : RoMap) : (s.setRo v).outputs = s.outputs := rfl
@[simp] theorem State.setPic_outputs (s : State) (v : Pic) : (s.setPic v).outputs = s.outputs := rfl
@[simp] theorem State.setPit_outputs (s : State) (v : Pit) : (s.setPit v).outputs = s.outputs := rfl
@[simp] theorem State.setDma_outputs (s : State) (v : Dma) : (s.setDma v).outputs = s.outputs := rfl
@[simp] theorem State.setPorts_outputs (s : State) (v : List PortRange) : (s.setPorts v).outputs = s.outputs := rfl
@[simp] theorem State.setSched_outputs (s : State) (v : Scheduler) : (s.setSched v).outputs = s.outputs := rfl
@[simp] theorem State.setInstrCount_outputs (s : State) (v : Nat) : (s.setInstrCount v).outputs = s.outputs := rfl
@[simp] theorem State.setRunning_outputs (s : State) (v : Bool) : (s.setRunning v).outputs = s.outputs := rfl
@[simp] theorem State.setDraws_outputs (s : State) (v : Nat) : (s.setDraws v).outputs = s.outputs := rfl
@[simp] theorem State.setEvents_outputs (s : State) (v : List (List Event)) : (s.setEvents v).outputs = s.outputs := rfl
@[simp] theorem State.setOutputs_outputs (s : State) (v : List Output) : (s.setOutputs v).outputs = v := rfl

@[simp] theorem State.setRegs_self (s : State) : s.setRegs s.regs = s := rfl
@[simp] theorem State.setSegs_self (s : State) : s.setSegs s.segs = s := rfl
@[simp] theorem State.setIp_self (s : State) : s.setIp s.ip = s := rfl
@[simp] theorem State.setFlags_self (s : State) : s.setFlags s.flags = s := rfl
@[simp] theorem State.setHalt_self (s : State) : s.setHalt s.halt = s := rfl
@[simp] theorem State.setTrapLatch_self (s : State) : s.setTrapLatch s.trapLatch = s := rfl
@[simp] theorem State.setSegOverride_self (s : State) : s.setSegOverride s.segOverride = s := rfl
@[simp] theorem State.setRepMode_self (s : State) : s.setRepMode s.repMode = s := rfl
@[simp] theorem State.setFirstIp_self (s : State) : s.setFirstIp s.firstIp = s := rfl
@[simp] theorem State.setMem_self (s : State) : s.setMem s.mem = s := rfl
@[simp] theorem State.setRo_self (s : State) : s.setRo s.ro = s := rfl
@[simp] theorem State.setPic_self (s : State) : s.setPic s.pic = s := rfl
@[simp] theorem State.setPit_self (s : State) : s.setPit s.pit = s := rfl
@[simp] theorem State.setDma_self (s : State) : s.setDma s.dma = s := rfl
@[simp] theorem State.setPorts_self (s : State) : s.setPorts s.ports = s := rfl
@[simp] theorem State.setSched_self (s : State) : s.setSched s.sched = s := rfl
@[simp] theorem State.setInstrCount_self (s : State) : s.setInstrCount s.instrCount = s := rfl
@[simp] theorem State.setRunning_self (s : State) : s.setRunning s.running = s := rfl
@[simp] theorem State.setDraws_self (s : State) : s.setDraws s.draws = s := rfl
@[simp] theorem State.setEvents_self (s : State) : s.setEvents s.events = s := rfl
@[simp] theorem State.setOutputs_self (s : State) : s.setOutputs s.outputs = s := rfl
@[simp] theorem State.setRegs_setRegs (s : State) (v w : Regs) : (s.setRegs v).setRegs w = s.setRegs w := rfl
@[simp] theorem State.setSegs_setSegs (s : State) (v w : SegRegs) : (s.setSegs v).setSegs w = s.setSegs w := rfl
@[simp] theorem State.setIp_setIp (s : State) (v w : Word) : (s.setIp v).setIp w = s.setIp w := rfl
@[simp] theorem State.setFlags_setFlags (s : State) (v w : Flags) : (s.setFlags v).setFlags w = s.setFlags w := rfl
@[simp] theorem State.setHalt_setHalt (s : State) (v w : Bool) : (s.setHalt v).setHalt w = s.setHalt w := rfl
@[simp] theorem State.setTrapLatch_setTrapLatch (s : State) (v w : Bool) : (s.setTrapLatch v).setTrapLatch w = s.setTrapLatch w := rfl
@[simp] theorem State.setSegOverride_setSegOverride (s : State) (v w : Option SReg) : (s.setSegOverride v).setSegOverride w = s.setSegOverride w := rfl
@[simp] theorem State.setRepMode_setRepMode (s : State) (v w : RepMode) : (s.setRepMode v).setRepMode w = s.setRepMode w := rfl
@[simp] theorem State.setFirstIp_setFirstIp (s : State) (v w : Word) : (s.setFirstIp v).setFirstIp w = s.setFirstIp w := rfl
@[simp] theorem State.setMem_setMem (s : State) (v w : Memory) : (s.setMem v).setMem w = s.setMem w := rfl
@[simp] theorem State.setRo_setRo (s : State) (v w : RoMap) : (s.setRo v).setRo w = s.setRo w := rfl
@[simp] theorem State.setPic_setPic (s : State) (v w : Pic) : (s.setPic v).setPic w = s.setPic w := rfl
@[simp] theorem State.setPit_setPit (s : State) (v w : Pit) : (s.setPit v).setPit w = s.setPit w := rfl
@[simp] theorem State.setDma_setDma (s : State) (v w : Dma) : (s.setDma v).setDma w = s.setDma w := rfl
@[simp] theorem State.setPorts_setPorts (s : State) (v w : List PortRange) : (s.setPorts v).setPorts w = s.setPorts w := rfl
@[simp] theorem State.setSched_setSched (s : State) (v w : Scheduler) : (s.setSched v).setSched w = s.setSched w := rfl
@[simp] theorem State.setInstrCount_setInstrCount (s : State) (v w : Nat) : (s.setInstrCount v).setInstrCount w = s.setInstrCount w := rfl
@[simp] theorem State.setRunning_setRunning (s : State) (v w : Bool) : (s.setRunning v).setRunning w = s.setRunning w := rfl
@[simp] theorem State.setDraws_setDraws (s : State) (v w : Nat) : (s.setDraws v).setDraws w = s.setDraws w := rfl
@[simp] theorem State.setEvents_setEvents (s : State) (v w : List (List Event)) : (s.setEvents v).setEvents w = s.setEvents w := rfl
@[simp] theorem State.setOutputs_setOutputs (s : State) (v w : List Output) : (s.setOutputs v).setOutputs w = s.setOutputs w := rfl

end Sys2Proof.Machine
end

