-- ==== Sys2Proof/Laws/Ops.lean ====
section
/-! SUPPORT. What each register, memory, stack and exception operation leaves unchanged: one lemma for each field. -/

namespace Sys2Proof.Machine

@[simp] theorem State.setReg_segs (s : State) (r : Reg16) (v : Word) : (s.setReg r v).segs = s.segs := rfl
@[simp] theorem State.setReg_ip (s : State) (r : Reg16) (v : Word) : (s.setReg r v).ip = s.ip := rfl
@[simp] theorem State.setReg_flags (s : State) (r : Reg16) (v : Word) : (s.setReg r v).flags = s.flags := rfl
@[simp] theorem State.setReg_halt (s : State) (r : Reg16) (v : Word) : (s.setReg r v).halt = s.halt := rfl
@[simp] theorem State.setReg_trapLatch (s : State) (r : Reg16) (v : Word) : (s.setReg r v).trapLatch = s.trapLatch := rfl
@[simp] theorem State.setReg_segOverride (s : State) (r : Reg16) (v : Word) : (s.setReg r v).segOverride = s.segOverride := rfl
@[simp] theorem State.setReg_repMode (s : State) (r : Reg16) (v : Word) : (s.setReg r v).repMode = s.repMode := rfl
@[simp] theorem State.setReg_firstIp (s : State) (r : Reg16) (v : Word) : (s.setReg r v).firstIp = s.firstIp := rfl
@[simp] theorem State.setReg_mem (s : State) (r : Reg16) (v : Word) : (s.setReg r v).mem = s.mem := rfl
@[simp] theorem State.setReg_ro (s : State) (r : Reg16) (v : Word) : (s.setReg r v).ro = s.ro := rfl
@[simp] theorem State.setReg_pic (s : State) (r : Reg16) (v : Word) : (s.setReg r v).pic = s.pic := rfl
@[simp] theorem State.setReg_pit (s : State) (r : Reg16) (v : Word) : (s.setReg r v).pit = s.pit := rfl
@[simp] theorem State.setReg_dma (s : State) (r : Reg16) (v : Word) : (s.setReg r v).dma = s.dma := rfl
@[simp] theorem State.setReg_ports (s : State) (r : Reg16) (v : Word) : (s.setReg r v).ports = s.ports := rfl
@[simp] theorem State.setReg_sched (s : State) (r : Reg16) (v : Word) : (s.setReg r v).sched = s.sched := rfl
@[simp] theorem State.setReg_instrCount (s : State) (r : Reg16) (v : Word) : (s.setReg r v).instrCount = s.instrCount := rfl
@[simp] theorem State.setReg_running (s : State) (r : Reg16) (v : Word) : (s.setReg r v).running = s.running := rfl
@[simp] theorem State.setReg_draws (s : State) (r : Reg16) (v : Word) : (s.setReg r v).draws = s.draws := rfl
@[simp] theorem State.setReg_events (s : State) (r : Reg16) (v : Word) : (s.setReg r v).events = s.events := rfl
@[simp] theorem State.setReg_outputs (s : State) (r : Reg16) (v : Word) : (s.setReg r v).outputs = s.outputs := rfl

@[simp] theorem State.setReg8_segs (s : State) (r : Reg8) (v : Byte) : (s.setReg8 r v).segs = s.segs := rfl
@[simp] theorem State.setReg8_ip (s : State) (r : Reg8) (v : Byte) : (s.setReg8 r v).ip = s.ip := rfl
@[simp] theorem State.setReg8_flags (s : State) (r : Reg8) (v : Byte) : (s.setReg8 r v).flags = s.flags := rfl
@[simp] theorem State.setReg8_halt (s : State) (r : Reg8) (v : Byte) : (s.setReg8 r v).halt = s.halt := rfl
@[simp] theorem State.setReg8_trapLatch (s : State) (r : Reg8) (v : Byte) : (s.setReg8 r v).trapLatch = s.trapLatch := rfl
@[simp] theorem State.setReg8_segOverride (s : State) (r : Reg8) (v : Byte) : (s.setReg8 r v).segOverride = s.segOverride := rfl
@[simp] theorem State.setReg8_repMode (s : State) (r : Reg8) (v : Byte) : (s.setReg8 r v).repMode = s.repMode := rfl
@[simp] theorem State.setReg8_firstIp (s : State) (r : Reg8) (v : Byte) : (s.setReg8 r v).firstIp = s.firstIp := rfl
@[simp] theorem State.setReg8_mem (s : State) (r : Reg8) (v : Byte) : (s.setReg8 r v).mem = s.mem := rfl
@[simp] theorem State.setReg8_ro (s : State) (r : Reg8) (v : Byte) : (s.setReg8 r v).ro = s.ro := rfl
@[simp] theorem State.setReg8_pic (s : State) (r : Reg8) (v : Byte) : (s.setReg8 r v).pic = s.pic := rfl
@[simp] theorem State.setReg8_pit (s : State) (r : Reg8) (v : Byte) : (s.setReg8 r v).pit = s.pit := rfl
@[simp] theorem State.setReg8_dma (s : State) (r : Reg8) (v : Byte) : (s.setReg8 r v).dma = s.dma := rfl
@[simp] theorem State.setReg8_ports (s : State) (r : Reg8) (v : Byte) : (s.setReg8 r v).ports = s.ports := rfl
@[simp] theorem State.setReg8_sched (s : State) (r : Reg8) (v : Byte) : (s.setReg8 r v).sched = s.sched := rfl
@[simp] theorem State.setReg8_instrCount (s : State) (r : Reg8) (v : Byte) : (s.setReg8 r v).instrCount = s.instrCount := rfl
@[simp] theorem State.setReg8_running (s : State) (r : Reg8) (v : Byte) : (s.setReg8 r v).running = s.running := rfl
@[simp] theorem State.setReg8_draws (s : State) (r : Reg8) (v : Byte) : (s.setReg8 r v).draws = s.draws := rfl
@[simp] theorem State.setReg8_events (s : State) (r : Reg8) (v : Byte) : (s.setReg8 r v).events = s.events := rfl
@[simp] theorem State.setReg8_outputs (s : State) (r : Reg8) (v : Byte) : (s.setReg8 r v).outputs = s.outputs := rfl

@[simp] theorem State.setSeg_regs (s : State) (r : SReg) (v : Word) : (s.setSeg r v).regs = s.regs := rfl
@[simp] theorem State.setSeg_ip (s : State) (r : SReg) (v : Word) : (s.setSeg r v).ip = s.ip := rfl
@[simp] theorem State.setSeg_flags (s : State) (r : SReg) (v : Word) : (s.setSeg r v).flags = s.flags := rfl
@[simp] theorem State.setSeg_halt (s : State) (r : SReg) (v : Word) : (s.setSeg r v).halt = s.halt := rfl
@[simp] theorem State.setSeg_trapLatch (s : State) (r : SReg) (v : Word) : (s.setSeg r v).trapLatch = s.trapLatch := rfl
@[simp] theorem State.setSeg_segOverride (s : State) (r : SReg) (v : Word) : (s.setSeg r v).segOverride = s.segOverride := rfl
@[simp] theorem State.setSeg_repMode (s : State) (r : SReg) (v : Word) : (s.setSeg r v).repMode = s.repMode := rfl
@[simp] theorem State.setSeg_firstIp (s : State) (r : SReg) (v : Word) : (s.setSeg r v).firstIp = s.firstIp := rfl
@[simp] theorem State.setSeg_mem (s : State) (r : SReg) (v : Word) : (s.setSeg r v).mem = s.mem := rfl
@[simp] theorem State.setSeg_ro (s : State) (r : SReg) (v : Word) : (s.setSeg r v).ro = s.ro := rfl
@[simp] theorem State.setSeg_pic (s : State) (r : SReg) (v : Word) : (s.setSeg r v).pic = s.pic := rfl
@[simp] theorem State.setSeg_pit (s : State) (r : SReg) (v : Word) : (s.setSeg r v).pit = s.pit := rfl
@[simp] theorem State.setSeg_dma (s : State) (r : SReg) (v : Word) : (s.setSeg r v).dma = s.dma := rfl
@[simp] theorem State.setSeg_ports (s : State) (r : SReg) (v : Word) : (s.setSeg r v).ports = s.ports := rfl
@[simp] theorem State.setSeg_sched (s : State) (r : SReg) (v : Word) : (s.setSeg r v).sched = s.sched := rfl
@[simp] theorem State.setSeg_instrCount (s : State) (r : SReg) (v : Word) : (s.setSeg r v).instrCount = s.instrCount := rfl
@[simp] theorem State.setSeg_running (s : State) (r : SReg) (v : Word) : (s.setSeg r v).running = s.running := rfl
@[simp] theorem State.setSeg_draws (s : State) (r : SReg) (v : Word) : (s.setSeg r v).draws = s.draws := rfl
@[simp] theorem State.setSeg_events (s : State) (r : SReg) (v : Word) : (s.setSeg r v).events = s.events := rfl
@[simp] theorem State.setSeg_outputs (s : State) (r : SReg) (v : Word) : (s.setSeg r v).outputs = s.outputs := rfl

@[simp] theorem State.drew_regs (s : State) (n : Nat) : (s.drew n).regs = s.regs := rfl
@[simp] theorem State.drew_segs (s : State) (n : Nat) : (s.drew n).segs = s.segs := rfl
@[simp] theorem State.drew_ip (s : State) (n : Nat) : (s.drew n).ip = s.ip := rfl
@[simp] theorem State.drew_flags (s : State) (n : Nat) : (s.drew n).flags = s.flags := rfl
@[simp] theorem State.drew_halt (s : State) (n : Nat) : (s.drew n).halt = s.halt := rfl
@[simp] theorem State.drew_trapLatch (s : State) (n : Nat) : (s.drew n).trapLatch = s.trapLatch := rfl
@[simp] theorem State.drew_segOverride (s : State) (n : Nat) : (s.drew n).segOverride = s.segOverride := rfl
@[simp] theorem State.drew_repMode (s : State) (n : Nat) : (s.drew n).repMode = s.repMode := rfl
@[simp] theorem State.drew_firstIp (s : State) (n : Nat) : (s.drew n).firstIp = s.firstIp := rfl
@[simp] theorem State.drew_mem (s : State) (n : Nat) : (s.drew n).mem = s.mem := rfl
@[simp] theorem State.drew_ro (s : State) (n : Nat) : (s.drew n).ro = s.ro := rfl
@[simp] theorem State.drew_pic (s : State) (n : Nat) : (s.drew n).pic = s.pic := rfl
@[simp] theorem State.drew_pit (s : State) (n : Nat) : (s.drew n).pit = s.pit := rfl
@[simp] theorem State.drew_dma (s : State) (n : Nat) : (s.drew n).dma = s.dma := rfl
@[simp] theorem State.drew_ports (s : State) (n : Nat) : (s.drew n).ports = s.ports := rfl
@[simp] theorem State.drew_sched (s : State) (n : Nat) : (s.drew n).sched = s.sched := rfl
@[simp] theorem State.drew_instrCount (s : State) (n : Nat) : (s.drew n).instrCount = s.instrCount := rfl
@[simp] theorem State.drew_running (s : State) (n : Nat) : (s.drew n).running = s.running := rfl
@[simp] theorem State.drew_events (s : State) (n : Nat) : (s.drew n).events = s.events := rfl
@[simp] theorem State.drew_outputs (s : State) (n : Nat) : (s.drew n).outputs = s.outputs := rfl

@[simp] theorem State.emit_regs (s : State) (o : Output) : (s.emit o).regs = s.regs := rfl
@[simp] theorem State.emit_segs (s : State) (o : Output) : (s.emit o).segs = s.segs := rfl
@[simp] theorem State.emit_ip (s : State) (o : Output) : (s.emit o).ip = s.ip := rfl
@[simp] theorem State.emit_flags (s : State) (o : Output) : (s.emit o).flags = s.flags := rfl
@[simp] theorem State.emit_halt (s : State) (o : Output) : (s.emit o).halt = s.halt := rfl
@[simp] theorem State.emit_trapLatch (s : State) (o : Output) : (s.emit o).trapLatch = s.trapLatch := rfl
@[simp] theorem State.emit_segOverride (s : State) (o : Output) : (s.emit o).segOverride = s.segOverride := rfl
@[simp] theorem State.emit_repMode (s : State) (o : Output) : (s.emit o).repMode = s.repMode := rfl
@[simp] theorem State.emit_firstIp (s : State) (o : Output) : (s.emit o).firstIp = s.firstIp := rfl
@[simp] theorem State.emit_mem (s : State) (o : Output) : (s.emit o).mem = s.mem := rfl
@[simp] theorem State.emit_ro (s : State) (o : Output) : (s.emit o).ro = s.ro := rfl
@[simp] theorem State.emit_pic (s : State) (o : Output) : (s.emit o).pic = s.pic := rfl
@[simp] theorem State.emit_pit (s : State) (o : Output) : (s.emit o).pit = s.pit := rfl
@[simp] theorem State.emit_dma (s : State) (o : Output) : (s.emit o).dma = s.dma := rfl
@[simp] theorem State.emit_ports (s : State) (o : Output) : (s.emit o).ports = s.ports := rfl
@[simp] theorem State.emit_sched (s : State) (o : Output) : (s.emit o).sched = s.sched := rfl
@[simp] theorem State.emit_instrCount (s : State) (o : Output) : (s.emit o).instrCount = s.instrCount := rfl
@[simp] theorem State.emit_running (s : State) (o : Output) : (s.emit o).running = s.running := rfl
@[simp] theorem State.emit_draws (s : State) (o : Output) : (s.emit o).draws = s.draws := rfl
@[simp] theorem State.emit_events (s : State) (o : Output) : (s.emit o).events = s.events := rfl

@[simp] theorem State.writeByte_regs (s : State) (a : Addr) (v : Byte) : (s.writeByte a v).regs = s.regs := by simp only [State.writeByte]; split; rfl; split <;> rfl
@[simp] theorem State.writeByte_segs (s : State) (a : Addr) (v : Byte) : (s.writeByte a v).segs = s.segs := by simp only [State.writeByte]; split; rfl; split <;> rfl
@[simp] theorem State.writeByte_ip (s : State) (a : Addr) (v : Byte) : (s.writeByte a v).ip = s.ip := by simp only [State.writeByte]; split; rfl; split <;> rfl
@[simp] theorem State.writeByte_flags (s : State) (a : Addr) (v : Byte) : (s.writeByte a v).flags = s.flags := by simp only [State.writeByte]; split; rfl; split <;> rfl
@[simp] theorem State.writeByte_halt (s : State) (a : Addr) (v : Byte) : (s.writeByte a v).halt = s.halt := by simp only [State.writeByte]; split; rfl; split <;> rfl
@[simp] theorem State.writeByte_trapLatch (s : State) (a : Addr) (v : Byte) : (s.writeByte a v).trapLatch = s.trapLatch := by simp only [State.writeByte]; split; rfl; split <;> rfl
@[simp] theorem State.writeByte_segOverride (s : State) (a : Addr) (v : Byte) : (s.writeByte a v).segOverride = s.segOverride := by simp only [State.writeByte]; split; rfl; split <;> rfl
@[simp] theorem State.writeByte_repMode (s : State) (a : Addr) (v : Byte) : (s.writeByte a v).repMode = s.repMode := by simp only [State.writeByte]; split; rfl; split <;> rfl
@[simp] theorem State.writeByte_firstIp (s : State) (a : Addr) (v : Byte) : (s.writeByte a v).firstIp = s.firstIp := by simp only [State.writeByte]; split; rfl; split <;> rfl
@[simp] theorem State.writeByte_ro (s : State) (a : Addr) (v : Byte) : (s.writeByte a v).ro = s.ro := by simp only [State.writeByte]; split; rfl; split <;> rfl
@[simp] theorem State.writeByte_pic (s : State) (a : Addr) (v : Byte) : (s.writeByte a v).pic = s.pic := by simp only [State.writeByte]; split; rfl; split <;> rfl
@[simp] theorem State.writeByte_pit (s : State) (a : Addr) (v : Byte) : (s.writeByte a v).pit = s.pit := by simp only [State.writeByte]; split; rfl; split <;> rfl
@[simp] theorem State.writeByte_dma (s : State) (a : Addr) (v : Byte) : (s.writeByte a v).dma = s.dma := by simp only [State.writeByte]; split; rfl; split <;> rfl
@[simp] theorem State.writeByte_ports (s : State) (a : Addr) (v : Byte) : (s.writeByte a v).ports = s.ports := by simp only [State.writeByte]; split; rfl; split <;> rfl
@[simp] theorem State.writeByte_sched (s : State) (a : Addr) (v : Byte) : (s.writeByte a v).sched = s.sched := by simp only [State.writeByte]; split; rfl; split <;> rfl
@[simp] theorem State.writeByte_instrCount (s : State) (a : Addr) (v : Byte) : (s.writeByte a v).instrCount = s.instrCount := by simp only [State.writeByte]; split; rfl; split <;> rfl
@[simp] theorem State.writeByte_running (s : State) (a : Addr) (v : Byte) : (s.writeByte a v).running = s.running := by simp only [State.writeByte]; split; rfl; split <;> rfl
@[simp] theorem State.writeByte_draws (s : State) (a : Addr) (v : Byte) : (s.writeByte a v).draws = s.draws := by simp only [State.writeByte]; split; rfl; split <;> rfl
@[simp] theorem State.writeByte_events (s : State) (a : Addr) (v : Byte) : (s.writeByte a v).events = s.events := by simp only [State.writeByte]; split; rfl; split <;> rfl

@[simp] theorem State.writeWord_regs (s : State) (a : Addr) (v : Word) : (s.writeWord a v).regs = s.regs := by simp [State.writeWord]
@[simp] theorem State.writeWord_segs (s : State) (a : Addr) (v : Word) : (s.writeWord a v).segs = s.segs := by simp [State.writeWord]
@[simp] theorem State.writeWord_ip (s : State) (a : Addr) (v : Word) : (s.writeWord a v).ip = s.ip := by simp [State.writeWord]
@[simp] theorem State.writeWord_flags (s : State) (a : Addr) (v : Word) : (s.writeWord a v).flags = s.flags := by simp [State.writeWord]
@[simp] theorem State.writeWord_halt (s : State) (a : Addr) (v : Word) : (s.writeWord a v).halt = s.halt := by simp [State.writeWord]
@[simp] theorem State.writeWord_trapLatch (s : State) (a : Addr) (v : Word) : (s.writeWord a v).trapLatch = s.trapLatch := by simp [State.writeWord]
@[simp] theorem State.writeWord_segOverride (s : State) (a : Addr) (v : Word) : (s.writeWord a v).segOverride = s.segOverride := by simp [State.writeWord]
@[simp] theorem State.writeWord_repMode (s : State) (a : Addr) (v : Word) : (s.writeWord a v).repMode = s.repMode := by simp [State.writeWord]
@[simp] theorem State.writeWord_firstIp (s : State) (a : Addr) (v : Word) : (s.writeWord a v).firstIp = s.firstIp := by simp [State.writeWord]
@[simp] theorem State.writeWord_ro (s : State) (a : Addr) (v : Word) : (s.writeWord a v).ro = s.ro := by simp [State.writeWord]
@[simp] theorem State.writeWord_pic (s : State) (a : Addr) (v : Word) : (s.writeWord a v).pic = s.pic := by simp [State.writeWord]
@[simp] theorem State.writeWord_pit (s : State) (a : Addr) (v : Word) : (s.writeWord a v).pit = s.pit := by simp [State.writeWord]
@[simp] theorem State.writeWord_dma (s : State) (a : Addr) (v : Word) : (s.writeWord a v).dma = s.dma := by simp [State.writeWord]
@[simp] theorem State.writeWord_ports (s : State) (a : Addr) (v : Word) : (s.writeWord a v).ports = s.ports := by simp [State.writeWord]
@[simp] theorem State.writeWord_sched (s : State) (a : Addr) (v : Word) : (s.writeWord a v).sched = s.sched := by simp [State.writeWord]
@[simp] theorem State.writeWord_instrCount (s : State) (a : Addr) (v : Word) : (s.writeWord a v).instrCount = s.instrCount := by simp [State.writeWord]
@[simp] theorem State.writeWord_running (s : State) (a : Addr) (v : Word) : (s.writeWord a v).running = s.running := by simp [State.writeWord]
@[simp] theorem State.writeWord_draws (s : State) (a : Addr) (v : Word) : (s.writeWord a v).draws = s.draws := by simp [State.writeWord]
@[simp] theorem State.writeWord_events (s : State) (a : Addr) (v : Word) : (s.writeWord a v).events = s.events := by simp [State.writeWord]

@[simp] theorem State.writeSeg8_regs (s : State) (sg off : Word) (v : Byte) : (s.writeSeg8 sg off v).regs = s.regs := by simp [State.writeSeg8]
@[simp] theorem State.writeSeg8_segs (s : State) (sg off : Word) (v : Byte) : (s.writeSeg8 sg off v).segs = s.segs := by simp [State.writeSeg8]
@[simp] theorem State.writeSeg8_ip (s : State) (sg off : Word) (v : Byte) : (s.writeSeg8 sg off v).ip = s.ip := by simp [State.writeSeg8]
@[simp] theorem State.writeSeg8_flags (s : State) (sg off : Word) (v : Byte) : (s.writeSeg8 sg off v).flags = s.flags := by simp [State.writeSeg8]
@[simp] theorem State.writeSeg8_halt (s : State) (sg off : Word) (v : Byte) : (s.writeSeg8 sg off v).halt = s.halt := by simp [State.writeSeg8]
@[simp] theorem State.writeSeg8_trapLatch (s : State) (sg off : Word) (v : Byte) : (s.writeSeg8 sg off v).trapLatch = s.trapLatch := by simp [State.writeSeg8]
@[simp] theorem State.writeSeg8_segOverride (s : State) (sg off : Word) (v : Byte) : (s.writeSeg8 sg off v).segOverride = s.segOverride := by simp [State.writeSeg8]
@[simp] theorem State.writeSeg8_repMode (s : State) (sg off : Word) (v : Byte) : (s.writeSeg8 sg off v).repMode = s.repMode := by simp [State.writeSeg8]
@[simp] theorem State.writeSeg8_firstIp (s : State) (sg off : Word) (v : Byte) : (s.writeSeg8 sg off v).firstIp = s.firstIp := by simp [State.writeSeg8]
@[simp] theorem State.writeSeg8_ro (s : State) (sg off : Word) (v : Byte) : (s.writeSeg8 sg off v).ro = s.ro := by simp [State.writeSeg8]
@[simp] theorem State.writeSeg8_pic (s : State) (sg off : Word) (v : Byte) : (s.writeSeg8 sg off v).pic = s.pic := by simp [State.writeSeg8]
@[simp] theorem State.writeSeg8_pit (s : State) (sg off : Word) (v : Byte) : (s.writeSeg8 sg off v).pit = s.pit := by simp [State.writeSeg8]
@[simp] theorem State.writeSeg8_dma (s : State) (sg off : Word) (v : Byte) : (s.writeSeg8 sg off v).dma = s.dma := by simp [State.writeSeg8]
@[simp] theorem State.writeSeg8_ports (s : State) (sg off : Word) (v : Byte) : (s.writeSeg8 sg off v).ports = s.ports := by simp [State.writeSeg8]
@[simp] theorem State.writeSeg8_sched (s : State) (sg off : Word) (v : Byte) : (s.writeSeg8 sg off v).sched = s.sched := by simp [State.writeSeg8]
@[simp] theorem State.writeSeg8_instrCount (s : State) (sg off : Word) (v : Byte) : (s.writeSeg8 sg off v).instrCount = s.instrCount := by simp [State.writeSeg8]
@[simp] theorem State.writeSeg8_running (s : State) (sg off : Word) (v : Byte) : (s.writeSeg8 sg off v).running = s.running := by simp [State.writeSeg8]
@[simp] theorem State.writeSeg8_draws (s : State) (sg off : Word) (v : Byte) : (s.writeSeg8 sg off v).draws = s.draws := by simp [State.writeSeg8]
@[simp] theorem State.writeSeg8_events (s : State) (sg off : Word) (v : Byte) : (s.writeSeg8 sg off v).events = s.events := by simp [State.writeSeg8]

@[simp] theorem State.writeSeg16_regs (s : State) (sg off v : Word) : (s.writeSeg16 sg off v).regs = s.regs := by simp [State.writeSeg16]
@[simp] theorem State.writeSeg16_segs (s : State) (sg off v : Word) : (s.writeSeg16 sg off v).segs = s.segs := by simp [State.writeSeg16]
@[simp] theorem State.writeSeg16_ip (s : State) (sg off v : Word) : (s.writeSeg16 sg off v).ip = s.ip := by simp [State.writeSeg16]
@[simp] theorem State.writeSeg16_flags (s : State) (sg off v : Word) : (s.writeSeg16 sg off v).flags = s.flags := by simp [State.writeSeg16]
@[simp] theorem State.writeSeg16_halt (s : State) (sg off v : Word) : (s.writeSeg16 sg off v).halt = s.halt := by simp [State.writeSeg16]
@[simp] theorem State.writeSeg16_trapLatch (s : State) (sg off v : Word) : (s.writeSeg16 sg off v).trapLatch = s.trapLatch := by simp [State.writeSeg16]
@[simp] theorem State.writeSeg16_segOverride (s : State) (sg off v : Word) : (s.writeSeg16 sg off v).segOverride = s.segOverride := by simp [State.writeSeg16]
@[simp] theorem State.writeSeg16_repMode (s : State) (sg off v : Word) : (s.writeSeg16 sg off v).repMode = s.repMode := by simp [State.writeSeg16]
@[simp] theorem State.writeSeg16_firstIp (s : State) (sg off v : Word) : (s.writeSeg16 sg off v).firstIp = s.firstIp := by simp [State.writeSeg16]
@[simp] theorem State.writeSeg16_ro (s : State) (sg off v : Word) : (s.writeSeg16 sg off v).ro = s.ro := by simp [State.writeSeg16]
@[simp] theorem State.writeSeg16_pic (s : State) (sg off v : Word) : (s.writeSeg16 sg off v).pic = s.pic := by simp [State.writeSeg16]
@[simp] theorem State.writeSeg16_pit (s : State) (sg off v : Word) : (s.writeSeg16 sg off v).pit = s.pit := by simp [State.writeSeg16]
@[simp] theorem State.writeSeg16_dma (s : State) (sg off v : Word) : (s.writeSeg16 sg off v).dma = s.dma := by simp [State.writeSeg16]
@[simp] theorem State.writeSeg16_ports (s : State) (sg off v : Word) : (s.writeSeg16 sg off v).ports = s.ports := by simp [State.writeSeg16]
@[simp] theorem State.writeSeg16_sched (s : State) (sg off v : Word) : (s.writeSeg16 sg off v).sched = s.sched := by simp [State.writeSeg16]
@[simp] theorem State.writeSeg16_instrCount (s : State) (sg off v : Word) : (s.writeSeg16 sg off v).instrCount = s.instrCount := by simp [State.writeSeg16]
@[simp] theorem State.writeSeg16_running (s : State) (sg off v : Word) : (s.writeSeg16 sg off v).running = s.running := by simp [State.writeSeg16]
@[simp] theorem State.writeSeg16_draws (s : State) (sg off v : Word) : (s.writeSeg16 sg off v).draws = s.draws := by simp [State.writeSeg16]
@[simp] theorem State.writeSeg16_events (s : State) (sg off v : Word) : (s.writeSeg16 sg off v).events = s.events := by simp [State.writeSeg16]

@[simp] theorem State.grown_segs (s : State) : s.grown.segs = s.segs := rfl
@[simp] theorem State.grown_ip (s : State) : s.grown.ip = s.ip := rfl
@[simp] theorem State.grown_flags (s : State) : s.grown.flags = s.flags := rfl
@[simp] theorem State.grown_halt (s : State) : s.grown.halt = s.halt := rfl
@[simp] theorem State.grown_trapLatch (s : State) : s.grown.trapLatch = s.trapLatch := rfl
@[simp] theorem State.grown_segOverride (s : State) : s.grown.segOverride = s.segOverride := rfl
@[simp] theorem State.grown_repMode (s : State) : s.grown.repMode = s.repMode := rfl
@[simp] theorem State.grown_firstIp (s : State) : s.grown.firstIp = s.firstIp := rfl
@[simp] theorem State.grown_mem (s : State) : s.grown.mem = s.mem := rfl
@[simp] theorem State.grown_ro (s : State) : s.grown.ro = s.ro := rfl
@[simp] theorem State.grown_pic (s : State) : s.grown.pic = s.pic := rfl
@[simp] theorem State.grown_pit (s : State) : s.grown.pit = s.pit := rfl
@[simp] theorem State.grown_dma (s : State) : s.grown.dma = s.dma := rfl
@[simp] theorem State.grown_ports (s : State) : s.grown.ports = s.ports := rfl
@[simp] theorem State.grown_sched (s : State) : s.grown.sched = s.sched := rfl
@[simp] theorem State.grown_instrCount (s : State) : s.grown.instrCount = s.instrCount := rfl
@[simp] theorem State.grown_running (s : State) : s.grown.running = s.running := rfl
@[simp] theorem State.grown_draws (s : State) : s.grown.draws = s.draws := rfl
@[simp] theorem State.grown_events (s : State) : s.grown.events = s.events := rfl
@[simp] theorem State.grown_outputs (s : State) : s.grown.outputs = s.outputs := rfl

@[simp] theorem State.writeTop_regs (s : State) (v : Word) : (s.writeTop v).regs = s.regs := by simp [State.writeTop]
@[simp] theorem State.writeTop_segs (s : State) (v : Word) : (s.writeTop v).segs = s.segs := by simp [State.writeTop]
@[simp] theorem State.writeTop_ip (s : State) (v : Word) : (s.writeTop v).ip = s.ip := by simp [State.writeTop]
@[simp] theorem State.writeTop_flags (s : State) (v : Word) : (s.writeTop v).flags = s.flags := by simp [State.writeTop]
@[simp] theorem State.writeTop_halt (s : State) (v : Word) : (s.writeTop v).halt = s.halt := by simp [State.writeTop]
@[simp] theorem State.writeTop_trapLatch (s : State) (v : Word) : (s.writeTop v).trapLatch = s.trapLatch := by simp [State.writeTop]
@[simp] theorem State.writeTop_segOverride (s : State) (v : Word) : (s.writeTop v).segOverride = s.segOverride := by simp [State.writeTop]
@[simp] theorem State.writeTop_repMode (s : State) (v : Word) : (s.writeTop v).repMode = s.repMode := by simp [State.writeTop]
@[simp] theorem State.writeTop_firstIp (s : State) (v : Word) : (s.writeTop v).firstIp = s.firstIp := by simp [State.writeTop]
@[simp] theorem State.writeTop_ro (s : State) (v : Word) : (s.writeTop v).ro = s.ro := by simp [State.writeTop]
@[simp] theorem State.writeTop_pic (s : State) (v : Word) : (s.writeTop v).pic = s.pic := by simp [State.writeTop]
@[simp] theorem State.writeTop_pit (s : State) (v : Word) : (s.writeTop v).pit = s.pit := by simp [State.writeTop]
@[simp] theorem State.writeTop_dma (s : State) (v : Word) : (s.writeTop v).dma = s.dma := by simp [State.writeTop]
@[simp] theorem State.writeTop_ports (s : State) (v : Word) : (s.writeTop v).ports = s.ports := by simp [State.writeTop]
@[simp] theorem State.writeTop_sched (s : State) (v : Word) : (s.writeTop v).sched = s.sched := by simp [State.writeTop]
@[simp] theorem State.writeTop_instrCount (s : State) (v : Word) : (s.writeTop v).instrCount = s.instrCount := by simp [State.writeTop]
@[simp] theorem State.writeTop_running (s : State) (v : Word) : (s.writeTop v).running = s.running := by simp [State.writeTop]
@[simp] theorem State.writeTop_draws (s : State) (v : Word) : (s.writeTop v).draws = s.draws := by simp [State.writeTop]
@[simp] theorem State.writeTop_events (s : State) (v : Word) : (s.writeTop v).events = s.events := by simp [State.writeTop]

@[simp] theorem State.push16_segs (s : State) (v : Word) : (s.push16 v).segs = s.segs := by simp [State.push16]
@[simp] theorem State.push16_ip (s : State) (v : Word) : (s.push16 v).ip = s.ip := by simp [State.push16]
@[simp] theorem State.push16_flags (s : State) (v : Word) : (s.push16 v).flags = s.flags := by simp [State.push16]
@[simp] theorem State.push16_halt (s : State) (v : Word) : (s.push16 v).halt = s.halt := by simp [State.push16]
@[simp] theorem State.push16_trapLatch (s : State) (v : Word) : (s.push16 v).trapLatch = s.trapLatch := by simp [State.push16]
@[simp] theorem State.push16_segOverride (s : State) (v : Word) : (s.push16 v).segOverride = s.segOverride := by simp [State.push16]
@[simp] theorem State.push16_repMode (s : State) (v : Word) : (s.push16 v).repMode = s.repMode := by simp [State.push16]
@[simp] theorem State.push16_firstIp (s : State) (v : Word) : (s.push16 v).firstIp = s.firstIp := by simp [State.push16]
@[simp] theorem State.push16_ro (s : State) (v : Word) : (s.push16 v).ro = s.ro := by simp [State.push16]
@[simp] theorem State.push16_pic (s : State) (v : Word) : (s.push16 v).pic = s.pic := by simp [State.push16]
@[simp] theorem State.push16_pit (s : State) (v : Word) : (s.push16 v).pit = s.pit := by simp [State.push16]
@[simp] theorem State.push16_dma (s : State) (v : Word) : (s.push16 v).dma = s.dma := by simp [State.push16]
@[simp] theorem State.push16_ports (s : State) (v : Word) : (s.push16 v).ports = s.ports := by simp [State.push16]
@[simp] theorem State.push16_sched (s : State) (v : Word) : (s.push16 v).sched = s.sched := by simp [State.push16]
@[simp] theorem State.push16_instrCount (s : State) (v : Word) : (s.push16 v).instrCount = s.instrCount := by simp [State.push16]
@[simp] theorem State.push16_running (s : State) (v : Word) : (s.push16 v).running = s.running := by simp [State.push16]
@[simp] theorem State.push16_draws (s : State) (v : Word) : (s.push16 v).draws = s.draws := by simp [State.push16]
@[simp] theorem State.push16_events (s : State) (v : Word) : (s.push16 v).events = s.events := by simp [State.push16]

@[simp] theorem State.popped_segs (s : State) : s.popped.segs = s.segs := rfl
@[simp] theorem State.popped_ip (s : State) : s.popped.ip = s.ip := rfl
@[simp] theorem State.popped_flags (s : State) : s.popped.flags = s.flags := rfl
@[simp] theorem State.popped_halt (s : State) : s.popped.halt = s.halt := rfl
@[simp] theorem State.popped_trapLatch (s : State) : s.popped.trapLatch = s.trapLatch := rfl
@[simp] theorem State.popped_segOverride (s : State) : s.popped.segOverride = s.segOverride := rfl
@[simp] theorem State.popped_repMode (s : State) : s.popped.repMode = s.repMode := rfl
@[simp] theorem State.popped_firstIp (s : State) : s.popped.firstIp = s.firstIp := rfl
@[simp] theorem State.popped_mem (s : State) : s.popped.mem = s.mem := rfl
@[simp] theorem State.popped_ro (s : State) : s.popped.ro = s.ro := rfl
@[simp] theorem State.popped_pic (s : State) : s.popped.pic = s.pic := rfl
@[simp] theorem State.popped_pit (s : State) : s.popped.pit = s.pit := rfl
@[simp] theorem State.popped_dma (s : State) : s.popped.dma = s.dma := rfl
@[simp] theorem State.popped_ports (s : State) : s.popped.ports = s.ports := rfl
@[simp] theorem State.popped_sched (s : State) : s.popped.sched = s.sched := rfl
@[simp] theorem State.popped_instrCount (s : State) : s.popped.instrCount = s.instrCount := rfl
@[simp] theorem State.popped_running (s : State) : s.popped.running = s.running := rfl
@[simp] theorem State.popped_draws (s : State) : s.popped.draws = s.draws := rfl
@[simp] theorem State.popped_events (s : State) : s.popped.events = s.events := rfl
@[simp] theorem State.popped_outputs (s : State) : s.popped.outputs = s.outputs := rfl

@[simp] theorem State.loadVector_regs (s : State) (n : Byte) : (s.loadVector n).regs = s.regs := by simp [State.loadVector]
@[simp] theorem State.loadVector_flags (s : State) (n : Byte) : (s.loadVector n).flags = s.flags := by simp [State.loadVector]
@[simp] theorem State.loadVector_halt (s : State) (n : Byte) : (s.loadVector n).halt = s.halt := by simp [State.loadVector]
@[simp] theorem State.loadVector_trapLatch (s : State) (n : Byte) : (s.loadVector n).trapLatch = s.trapLatch := by simp [State.loadVector]
@[simp] theorem State.loadVector_segOverride (s : State) (n : Byte) : (s.loadVector n).segOverride = s.segOverride := by simp [State.loadVector]
@[simp] theorem State.loadVector_repMode (s : State) (n : Byte) : (s.loadVector n).repMode = s.repMode := by simp [State.loadVector]
@[simp] theorem State.loadVector_firstIp (s : State) (n : Byte) : (s.loadVector n).firstIp = s.firstIp := by simp [State.loadVector]
@[simp] theorem State.loadVector_mem (s : State) (n : Byte) : (s.loadVector n).mem = s.mem := by simp [State.loadVector]
@[simp] theorem State.loadVector_ro (s : State) (n : Byte) : (s.loadVector n).ro = s.ro := by simp [State.loadVector]
@[simp] theorem State.loadVector_pic (s : State) (n : Byte) : (s.loadVector n).pic = s.pic := by simp [State.loadVector]
@[simp] theorem State.loadVector_pit (s : State) (n : Byte) : (s.loadVector n).pit = s.pit := by simp [State.loadVector]
@[simp] theorem State.loadVector_dma (s : State) (n : Byte) : (s.loadVector n).dma = s.dma := by simp [State.loadVector]
@[simp] theorem State.loadVector_ports (s : State) (n : Byte) : (s.loadVector n).ports = s.ports := by simp [State.loadVector]
@[simp] theorem State.loadVector_sched (s : State) (n : Byte) : (s.loadVector n).sched = s.sched := by simp [State.loadVector]
@[simp] theorem State.loadVector_instrCount (s : State) (n : Byte) : (s.loadVector n).instrCount = s.instrCount := by simp [State.loadVector]
@[simp] theorem State.loadVector_running (s : State) (n : Byte) : (s.loadVector n).running = s.running := by simp [State.loadVector]
@[simp] theorem State.loadVector_draws (s : State) (n : Byte) : (s.loadVector n).draws = s.draws := by simp [State.loadVector]
@[simp] theorem State.loadVector_events (s : State) (n : Byte) : (s.loadVector n).events = s.events := by simp [State.loadVector]
@[simp] theorem State.loadVector_outputs (s : State) (n : Byte) : (s.loadVector n).outputs = s.outputs := by simp [State.loadVector]

@[simp] theorem State.intCall_halt (s : State) (n : Byte) : (s.intCall n).halt = s.halt := by simp [State.intCall]
@[simp] theorem State.intCall_trapLatch (s : State) (n : Byte) : (s.intCall n).trapLatch = s.trapLatch := by simp [State.intCall]
@[simp] theorem State.intCall_segOverride (s : State) (n : Byte) : (s.intCall n).segOverride = s.segOverride := by simp [State.intCall]
@[simp] theorem State.intCall_repMode (s : State) (n : Byte) : (s.intCall n).repMode = s.repMode := by simp [State.intCall]
@[simp] theorem State.intCall_firstIp (s : State) (n : Byte) : (s.intCall n).firstIp = s.firstIp := by simp [State.intCall]
@[simp] theorem State.intCall_ro (s : State) (n : Byte) : (s.intCall n).ro = s.ro := by simp [State.intCall]
@[simp] theorem State.intCall_pic (s : State) (n : Byte) : (s.intCall n).pic = s.pic := by simp [State.intCall]
@[simp] theorem State.intCall_pit (s : State) (n : Byte) : (s.intCall n).pit = s.pit := by simp [State.intCall]
@[simp] theorem State.intCall_dma (s : State) (n : Byte) : (s.intCall n).dma = s.dma := by simp [State.intCall]
@[simp] theorem State.intCall_ports (s : State) (n : Byte) : (s.intCall n).ports = s.ports := by simp [State.intCall]
@[simp] theorem State.intCall_sched (s : State) (n : Byte) : (s.intCall n).sched = s.sched := by simp [State.intCall]
@[simp] theorem State.intCall_instrCount (s : State) (n : Byte) : (s.intCall n).instrCount = s.instrCount := by simp [State.intCall]
@[simp] theorem State.intCall_running (s : State) (n : Byte) : (s.intCall n).running = s.running := by simp [State.intCall]
@[simp] theorem State.intCall_draws (s : State) (n : Byte) : (s.intCall n).draws = s.draws := by simp [State.intCall]
@[simp] theorem State.intCall_events (s : State) (n : Byte) : (s.intCall n).events = s.events := by simp [State.intCall]

@[simp] theorem State.returnFromInterrupt_halt (s : State) : s.returnFromInterrupt.halt = s.halt := by simp [State.returnFromInterrupt]
@[simp] theorem State.returnFromInterrupt_trapLatch (s : State) : s.returnFromInterrupt.trapLatch = s.trapLatch := by simp [State.returnFromInterrupt]
@[simp] theorem State.returnFromInterrupt_segOverride (s : State) : s.returnFromInterrupt.segOverride = s.segOverride := by simp [State.returnFromInterrupt]
@[simp] theorem State.returnFromInterrupt_repMode (s : State) : s.returnFromInterrupt.repMode = s.repMode := by simp [State.returnFromInterrupt]
@[simp] theorem State.returnFromInterrupt_firstIp (s : State) : s.returnFromInterrupt.firstIp = s.firstIp := by simp [State.returnFromInterrupt]
@[simp] theorem State.returnFromInterrupt_mem (s : State) : s.returnFromInterrupt.mem = s.mem := by simp [State.returnFromInterrupt]
@[simp] theorem State.returnFromInterrupt_ro (s : State) : s.returnFromInterrupt.ro = s.ro := by simp [State.returnFromInterrupt]
@[simp] theorem State.returnFromInterrupt_pic (s : State) : s.returnFromInterrupt.pic = s.pic := by simp [State.returnFromInterrupt]
@[simp] theorem State.returnFromInterrupt_pit (s : State) : s.returnFromInterrupt.pit = s.pit := by simp [State.returnFromInterrupt]
@[simp] theorem State.returnFromInterrupt_dma (s : State) : s.returnFromInterrupt.dma = s.dma := by simp [State.returnFromInterrupt]
@[simp] theorem State.returnFromInterrupt_ports (s : State) : s.returnFromInterrupt.ports = s.ports := by simp [State.returnFromInterrupt]
@[simp] theorem State.returnFromInterrupt_sched (s : State) : s.returnFromInterrupt.sched = s.sched := by simp [State.returnFromInterrupt]
@[simp] theorem State.returnFromInterrupt_instrCount (s : State) : s.returnFromInterrupt.instrCount = s.instrCount := by simp [State.returnFromInterrupt]
@[simp] theorem State.returnFromInterrupt_running (s : State) : s.returnFromInterrupt.running = s.running := by simp [State.returnFromInterrupt]
@[simp] theorem State.returnFromInterrupt_draws (s : State) : s.returnFromInterrupt.draws = s.draws := by simp [State.returnFromInterrupt]
@[simp] theorem State.returnFromInterrupt_events (s : State) : s.returnFromInterrupt.events = s.events := by simp [State.returnFromInterrupt]
@[simp] theorem State.returnFromInterrupt_outputs (s : State) : s.returnFromInterrupt.outputs = s.outputs := by simp [State.returnFromInterrupt]

@[simp] theorem State.write8_segs (s : State) (l : Loc Reg8) (v : Byte) : (s.write8 l v).segs = s.segs := by cases l <;> simp [State.write8]
@[simp] theorem State.write8_ip (s : State) (l : Loc Reg8) (v : Byte) : (s.write8 l v).ip = s.ip := by cases l <;> simp [State.write8]
@[simp] theorem State.write8_flags (s : State) (l : Loc Reg8) (v : Byte) : (s.write8 l v).flags = s.flags := by cases l <;> simp [State.write8]
@[simp] theorem State.write8_halt (s : State) (l : Loc Reg8) (v : Byte) : (s.write8 l v).halt = s.halt := by cases l <;> simp [State.write8]
@[simp] theorem State.write8_trapLatch (s : State) (l : Loc Reg8) (v : Byte) : (s.write8 l v).trapLatch = s.trapLatch := by cases l <;> simp [State.write8]
@[simp] theorem State.write8_segOverride (s : State) (l : Loc Reg8) (v : Byte) : (s.write8 l v).segOverride = s.segOverride := by cases l <;> simp [State.write8]
@[simp] theorem State.write8_repMode (s : State) (l : Loc Reg8) (v : Byte) : (s.write8 l v).repMode = s.repMode := by cases l <;> simp [State.write8]
@[simp] theorem State.write8_firstIp (s : State) (l : Loc Reg8) (v : Byte) : (s.write8 l v).firstIp = s.firstIp := by cases l <;> simp [State.write8]
@[simp] theorem State.write8_ro (s : State) (l : Loc Reg8) (v : Byte) : (s.write8 l v).ro = s.ro := by cases l <;> simp [State.write8]
@[simp] theorem State.write8_pic (s : State) (l : Loc Reg8) (v : Byte) : (s.write8 l v).pic = s.pic := by cases l <;> simp [State.write8]
@[simp] theorem State.write8_pit (s : State) (l : Loc Reg8) (v : Byte) : (s.write8 l v).pit = s.pit := by cases l <;> simp [State.write8]
@[simp] theorem State.write8_dma (s : State) (l : Loc Reg8) (v : Byte) : (s.write8 l v).dma = s.dma := by cases l <;> simp [State.write8]
@[simp] theorem State.write8_ports (s : State) (l : Loc Reg8) (v : Byte) : (s.write8 l v).ports = s.ports := by cases l <;> simp [State.write8]
@[simp] theorem State.write8_sched (s : State) (l : Loc Reg8) (v : Byte) : (s.write8 l v).sched = s.sched := by cases l <;> simp [State.write8]
@[simp] theorem State.write8_instrCount (s : State) (l : Loc Reg8) (v : Byte) : (s.write8 l v).instrCount = s.instrCount := by cases l <;> simp [State.write8]
@[simp] theorem State.write8_running (s : State) (l : Loc Reg8) (v : Byte) : (s.write8 l v).running = s.running := by cases l <;> simp [State.write8]
@[simp] theorem State.write8_draws (s : State) (l : Loc Reg8) (v : Byte) : (s.write8 l v).draws = s.draws := by cases l <;> simp [State.write8]
@[simp] theorem State.write8_events (s : State) (l : Loc Reg8) (v : Byte) : (s.write8 l v).events = s.events := by cases l <;> simp [State.write8]

@[simp] theorem State.write16_segs (s : State) (l : Loc Reg16) (v : Word) : (s.write16 l v).segs = s.segs := by cases l <;> simp [State.write16]
@[simp] theorem State.write16_ip (s : State) (l : Loc Reg16) (v : Word) : (s.write16 l v).ip = s.ip := by cases l <;> simp [State.write16]
@[simp] theorem State.write16_flags (s : State) (l : Loc Reg16) (v : Word) : (s.write16 l v).flags = s.flags := by cases l <;> simp [State.write16]
@[simp] theorem State.write16_halt (s : State) (l : Loc Reg16) (v : Word) : (s.write16 l v).halt = s.halt := by cases l <;> simp [State.write16]
@[simp] theorem State.write16_trapLatch (s : State) (l : Loc Reg16) (v : Word) : (s.write16 l v).trapLatch = s.trapLatch := by cases l <;> simp [State.write16]
@[simp] theorem State.write16_segOverride (s : State) (l : Loc Reg16) (v : Word) : (s.write16 l v).segOverride = s.segOverride := by cases l <;> simp [State.write16]
@[simp] theorem State.write16_repMode (s : State) (l : Loc Reg16) (v : Word) : (s.write16 l v).repMode = s.repMode := by cases l <;> simp [State.write16]
@[simp] theorem State.write16_firstIp (s : State) (l : Loc Reg16) (v : Word) : (s.write16 l v).firstIp = s.firstIp := by cases l <;> simp [State.write16]
@[simp] theorem State.write16_ro (s : State) (l : Loc Reg16) (v : Word) : (s.write16 l v).ro = s.ro := by cases l <;> simp [State.write16]
@[simp] theorem State.write16_pic (s : State) (l : Loc Reg16) (v : Word) : (s.write16 l v).pic = s.pic := by cases l <;> simp [State.write16]
@[simp] theorem State.write16_pit (s : State) (l : Loc Reg16) (v : Word) : (s.write16 l v).pit = s.pit := by cases l <;> simp [State.write16]
@[simp] theorem State.write16_dma (s : State) (l : Loc Reg16) (v : Word) : (s.write16 l v).dma = s.dma := by cases l <;> simp [State.write16]
@[simp] theorem State.write16_ports (s : State) (l : Loc Reg16) (v : Word) : (s.write16 l v).ports = s.ports := by cases l <;> simp [State.write16]
@[simp] theorem State.write16_sched (s : State) (l : Loc Reg16) (v : Word) : (s.write16 l v).sched = s.sched := by cases l <;> simp [State.write16]
@[simp] theorem State.write16_instrCount (s : State) (l : Loc Reg16) (v : Word) : (s.write16 l v).instrCount = s.instrCount := by cases l <;> simp [State.write16]
@[simp] theorem State.write16_running (s : State) (l : Loc Reg16) (v : Word) : (s.write16 l v).running = s.running := by cases l <;> simp [State.write16]
@[simp] theorem State.write16_draws (s : State) (l : Loc Reg16) (v : Word) : (s.write16 l v).draws = s.draws := by cases l <;> simp [State.write16]
@[simp] theorem State.write16_events (s : State) (l : Loc Reg16) (v : Word) : (s.write16 l v).events = s.events := by cases l <;> simp [State.write16]

end Sys2Proof.Machine
end

