-- ==== Sys2Proof/Laws/Families.lean ====
section
/-! SUPPORT. What each shared operation of the instruction families leaves unchanged: one lemma for each field. -/

namespace Sys2Proof.Machine

@[simp] theorem State.addTo_segs (s : State) (x : Operands) (c : Bool) : (s.addTo x c).segs = s.segs := by cases x <;> simp [State.addTo]
@[simp] theorem State.addTo_ip (s : State) (x : Operands) (c : Bool) : (s.addTo x c).ip = s.ip := by cases x <;> simp [State.addTo]
@[simp] theorem State.addTo_halt (s : State) (x : Operands) (c : Bool) : (s.addTo x c).halt = s.halt := by cases x <;> simp [State.addTo]
@[simp] theorem State.addTo_trapLatch (s : State) (x : Operands) (c : Bool) : (s.addTo x c).trapLatch = s.trapLatch := by cases x <;> simp [State.addTo]
@[simp] theorem State.addTo_segOverride (s : State) (x : Operands) (c : Bool) : (s.addTo x c).segOverride = s.segOverride := by cases x <;> simp [State.addTo]
@[simp] theorem State.addTo_repMode (s : State) (x : Operands) (c : Bool) : (s.addTo x c).repMode = s.repMode := by cases x <;> simp [State.addTo]
@[simp] theorem State.addTo_firstIp (s : State) (x : Operands) (c : Bool) : (s.addTo x c).firstIp = s.firstIp := by cases x <;> simp [State.addTo]
@[simp] theorem State.addTo_ro (s : State) (x : Operands) (c : Bool) : (s.addTo x c).ro = s.ro := by cases x <;> simp [State.addTo]
@[simp] theorem State.addTo_pic (s : State) (x : Operands) (c : Bool) : (s.addTo x c).pic = s.pic := by cases x <;> simp [State.addTo]
@[simp] theorem State.addTo_pit (s : State) (x : Operands) (c : Bool) : (s.addTo x c).pit = s.pit := by cases x <;> simp [State.addTo]
@[simp] theorem State.addTo_dma (s : State) (x : Operands) (c : Bool) : (s.addTo x c).dma = s.dma := by cases x <;> simp [State.addTo]
@[simp] theorem State.addTo_ports (s : State) (x : Operands) (c : Bool) : (s.addTo x c).ports = s.ports := by cases x <;> simp [State.addTo]
@[simp] theorem State.addTo_sched (s : State) (x : Operands) (c : Bool) : (s.addTo x c).sched = s.sched := by cases x <;> simp [State.addTo]
@[simp] theorem State.addTo_instrCount (s : State) (x : Operands) (c : Bool) : (s.addTo x c).instrCount = s.instrCount := by cases x <;> simp [State.addTo]
@[simp] theorem State.addTo_running (s : State) (x : Operands) (c : Bool) : (s.addTo x c).running = s.running := by cases x <;> simp [State.addTo]
@[simp] theorem State.addTo_draws (s : State) (x : Operands) (c : Bool) : (s.addTo x c).draws = s.draws := by cases x <;> simp [State.addTo]
@[simp] theorem State.addTo_events (s : State) (x : Operands) (c : Bool) : (s.addTo x c).events = s.events := by cases x <;> simp [State.addTo]

@[simp] theorem State.subFrom_segs (s : State) (x : Operands) (c : Bool) : (s.subFrom x c).segs = s.segs := by cases x <;> simp [State.subFrom]
@[simp] theorem State.subFrom_ip (s : State) (x : Operands) (c : Bool) : (s.subFrom x c).ip = s.ip := by cases x <;> simp [State.subFrom]
@[simp] theorem State.subFrom_halt (s : State) (x : Operands) (c : Bool) : (s.subFrom x c).halt = s.halt := by cases x <;> simp [State.subFrom]
@[simp] theorem State.subFrom_trapLatch (s : State) (x : Operands) (c : Bool) : (s.subFrom x c).trapLatch = s.trapLatch := by cases x <;> simp [State.subFrom]
@[simp] theorem State.subFrom_segOverride (s : State) (x : Operands) (c : Bool) : (s.subFrom x c).segOverride = s.segOverride := by cases x <;> simp [State.subFrom]
@[simp] theorem State.subFrom_repMode (s : State) (x : Operands) (c : Bool) : (s.subFrom x c).repMode = s.repMode := by cases x <;> simp [State.subFrom]
@[simp] theorem State.subFrom_firstIp (s : State) (x : Operands) (c : Bool) : (s.subFrom x c).firstIp = s.firstIp := by cases x <;> simp [State.subFrom]
@[simp] theorem State.subFrom_ro (s : State) (x : Operands) (c : Bool) : (s.subFrom x c).ro = s.ro := by cases x <;> simp [State.subFrom]
@[simp] theorem State.subFrom_pic (s : State) (x : Operands) (c : Bool) : (s.subFrom x c).pic = s.pic := by cases x <;> simp [State.subFrom]
@[simp] theorem State.subFrom_pit (s : State) (x : Operands) (c : Bool) : (s.subFrom x c).pit = s.pit := by cases x <;> simp [State.subFrom]
@[simp] theorem State.subFrom_dma (s : State) (x : Operands) (c : Bool) : (s.subFrom x c).dma = s.dma := by cases x <;> simp [State.subFrom]
@[simp] theorem State.subFrom_ports (s : State) (x : Operands) (c : Bool) : (s.subFrom x c).ports = s.ports := by cases x <;> simp [State.subFrom]
@[simp] theorem State.subFrom_sched (s : State) (x : Operands) (c : Bool) : (s.subFrom x c).sched = s.sched := by cases x <;> simp [State.subFrom]
@[simp] theorem State.subFrom_instrCount (s : State) (x : Operands) (c : Bool) : (s.subFrom x c).instrCount = s.instrCount := by cases x <;> simp [State.subFrom]
@[simp] theorem State.subFrom_running (s : State) (x : Operands) (c : Bool) : (s.subFrom x c).running = s.running := by cases x <;> simp [State.subFrom]
@[simp] theorem State.subFrom_draws (s : State) (x : Operands) (c : Bool) : (s.subFrom x c).draws = s.draws := by cases x <;> simp [State.subFrom]
@[simp] theorem State.subFrom_events (s : State) (x : Operands) (c : Bool) : (s.subFrom x c).events = s.events := by cases x <;> simp [State.subFrom]

@[simp] theorem State.compare_regs (s : State) (x : Operands) : (s.compare x).regs = s.regs := by cases x <;> simp [State.compare]
@[simp] theorem State.compare_segs (s : State) (x : Operands) : (s.compare x).segs = s.segs := by cases x <;> simp [State.compare]
@[simp] theorem State.compare_ip (s : State) (x : Operands) : (s.compare x).ip = s.ip := by cases x <;> simp [State.compare]
@[simp] theorem State.compare_halt (s : State) (x : Operands) : (s.compare x).halt = s.halt := by cases x <;> simp [State.compare]
@[simp] theorem State.compare_trapLatch (s : State) (x : Operands) : (s.compare x).trapLatch = s.trapLatch := by cases x <;> simp [State.compare]
@[simp] theorem State.compare_segOverride (s : State) (x : Operands) : (s.compare x).segOverride = s.segOverride := by cases x <;> simp [State.compare]
@[simp] theorem State.compare_repMode (s : State) (x : Operands) : (s.compare x).repMode = s.repMode := by cases x <;> simp [State.compare]
@[simp] theorem State.compare_firstIp (s : State) (x : Operands) : (s.compare x).firstIp = s.firstIp := by cases x <;> simp [State.compare]
@[simp] theorem State.compare_mem (s : State) (x : Operands) : (s.compare x).mem = s.mem := by cases x <;> simp [State.compare]
@[simp] theorem State.compare_ro (s : State) (x : Operands) : (s.compare x).ro = s.ro := by cases x <;> simp [State.compare]
@[simp] theorem State.compare_pic (s : State) (x : Operands) : (s.compare x).pic = s.pic := by cases x <;> simp [State.compare]
@[simp] theorem State.compare_pit (s : State) (x : Operands) : (s.compare x).pit = s.pit := by cases x <;> simp [State.compare]
@[simp] theorem State.compare_dma (s : State) (x : Operands) : (s.compare x).dma = s.dma := by cases x <;> simp [State.compare]
@[simp] theorem State.compare_ports (s : State) (x : Operands) : (s.compare x).ports = s.ports := by cases x <;> simp [State.compare]
@[simp] theorem State.compare_sched (s : State) (x : Operands) : (s.compare x).sched = s.sched := by cases x <;> simp [State.compare]
@[simp] theorem State.compare_instrCount (s : State) (x : Operands) : (s.compare x).instrCount = s.instrCount := by cases x <;> simp [State.compare]
@[simp] theorem State.compare_running (s : State) (x : Operands) : (s.compare x).running = s.running := by cases x <;> simp [State.compare]
@[simp] theorem State.compare_draws (s : State) (x : Operands) : (s.compare x).draws = s.draws := by cases x <;> simp [State.compare]
@[simp] theorem State.compare_events (s : State) (x : Operands) : (s.compare x).events = s.events := by cases x <;> simp [State.compare]
@[simp] theorem State.compare_outputs (s : State) (x : Operands) : (s.compare x).outputs = s.outputs := by cases x <;> simp [State.compare]

@[simp] theorem State.logicFlags_regs (s : State) {w : Nat} (v : BitVec w) : (s.logicFlags v).regs = s.regs := by simp [State.logicFlags]
@[simp] theorem State.logicFlags_segs (s : State) {w : Nat} (v : BitVec w) : (s.logicFlags v).segs = s.segs := by simp [State.logicFlags]
@[simp] theorem State.logicFlags_ip (s : State) {w : Nat} (v : BitVec w) : (s.logicFlags v).ip = s.ip := by simp [State.logicFlags]
@[simp] theorem State.logicFlags_halt (s : State) {w : Nat} (v : BitVec w) : (s.logicFlags v).halt = s.halt := by simp [State.logicFlags]
@[simp] theorem State.logicFlags_trapLatch (s : State) {w : Nat} (v : BitVec w) : (s.logicFlags v).trapLatch = s.trapLatch := by simp [State.logicFlags]
@[simp] theorem State.logicFlags_segOverride (s : State) {w : Nat} (v : BitVec w) : (s.logicFlags v).segOverride = s.segOverride := by simp [State.logicFlags]
@[simp] theorem State.logicFlags_repMode (s : State) {w : Nat} (v : BitVec w) : (s.logicFlags v).repMode = s.repMode := by simp [State.logicFlags]
@[simp] theorem State.logicFlags_firstIp (s : State) {w : Nat} (v : BitVec w) : (s.logicFlags v).firstIp = s.firstIp := by simp [State.logicFlags]
@[simp] theorem State.logicFlags_mem (s : State) {w : Nat} (v : BitVec w) : (s.logicFlags v).mem = s.mem := by simp [State.logicFlags]
@[simp] theorem State.logicFlags_ro (s : State) {w : Nat} (v : BitVec w) : (s.logicFlags v).ro = s.ro := by simp [State.logicFlags]
@[simp] theorem State.logicFlags_pic (s : State) {w : Nat} (v : BitVec w) : (s.logicFlags v).pic = s.pic := by simp [State.logicFlags]
@[simp] theorem State.logicFlags_pit (s : State) {w : Nat} (v : BitVec w) : (s.logicFlags v).pit = s.pit := by simp [State.logicFlags]
@[simp] theorem State.logicFlags_dma (s : State) {w : Nat} (v : BitVec w) : (s.logicFlags v).dma = s.dma := by simp [State.logicFlags]
@[simp] theorem State.logicFlags_ports (s : State) {w : Nat} (v : BitVec w) : (s.logicFlags v).ports = s.ports := by simp [State.logicFlags]
@[simp] theorem State.logicFlags_sched (s : State) {w : Nat} (v : BitVec w) : (s.logicFlags v).sched = s.sched := by simp [State.logicFlags]
@[simp] theorem State.logicFlags_instrCount (s : State) {w : Nat} (v : BitVec w) : (s.logicFlags v).instrCount = s.instrCount := by simp [State.logicFlags]
@[simp] theorem State.logicFlags_running (s : State) {w : Nat} (v : BitVec w) : (s.logicFlags v).running = s.running := by simp [State.logicFlags]
@[simp] theorem State.logicFlags_events (s : State) {w : Nat} (v : BitVec w) : (s.logicFlags v).events = s.events := by simp [State.logicFlags]
@[simp] theorem State.logicFlags_outputs (s : State) {w : Nat} (v : BitVec w) : (s.logicFlags v).outputs = s.outputs := by simp [State.logicFlags]

@[simp] theorem State.logic_segs (s : State) (op : LogicOp) (x : Operands) : (s.logic op x).segs = s.segs := by cases x <;> simp [State.logic]
@[simp] theorem State.logic_ip (s : State) (op : LogicOp) (x : Operands) : (s.logic op x).ip = s.ip := by cases x <;> simp [State.logic]
@[simp] theorem State.logic_halt (s : State) (op : LogicOp) (x : Operands) : (s.logic op x).halt = s.halt := by cases x <;> simp [State.logic]
@[simp] theorem State.logic_trapLatch (s : State) (op : LogicOp) (x : Operands) : (s.logic op x).trapLatch = s.trapLatch := by cases x <;> simp [State.logic]
@[simp] theorem State.logic_segOverride (s : State) (op : LogicOp) (x : Operands) : (s.logic op x).segOverride = s.segOverride := by cases x <;> simp [State.logic]
@[simp] theorem State.logic_repMode (s : State) (op : LogicOp) (x : Operands) : (s.logic op x).repMode = s.repMode := by cases x <;> simp [State.logic]
@[simp] theorem State.logic_firstIp (s : State) (op : LogicOp) (x : Operands) : (s.logic op x).firstIp = s.firstIp := by cases x <;> simp [State.logic]
@[simp] theorem State.logic_ro (s : State) (op : LogicOp) (x : Operands) : (s.logic op x).ro = s.ro := by cases x <;> simp [State.logic]
@[simp] theorem State.logic_pic (s : State) (op : LogicOp) (x : Operands) : (s.logic op x).pic = s.pic := by cases x <;> simp [State.logic]
@[simp] theorem State.logic_pit (s : State) (op : LogicOp) (x : Operands) : (s.logic op x).pit = s.pit := by cases x <;> simp [State.logic]
@[simp] theorem State.logic_dma (s : State) (op : LogicOp) (x : Operands) : (s.logic op x).dma = s.dma := by cases x <;> simp [State.logic]
@[simp] theorem State.logic_ports (s : State) (op : LogicOp) (x : Operands) : (s.logic op x).ports = s.ports := by cases x <;> simp [State.logic]
@[simp] theorem State.logic_sched (s : State) (op : LogicOp) (x : Operands) : (s.logic op x).sched = s.sched := by cases x <;> simp [State.logic]
@[simp] theorem State.logic_instrCount (s : State) (op : LogicOp) (x : Operands) : (s.logic op x).instrCount = s.instrCount := by cases x <;> simp [State.logic]
@[simp] theorem State.logic_running (s : State) (op : LogicOp) (x : Operands) : (s.logic op x).running = s.running := by cases x <;> simp [State.logic]
@[simp] theorem State.logic_events (s : State) (op : LogicOp) (x : Operands) : (s.logic op x).events = s.events := by cases x <;> simp [State.logic]

@[simp] theorem State.testBits_regs (s : State) (x : Operands) : (s.testBits x).regs = s.regs := by cases x <;> simp [State.testBits]
@[simp] theorem State.testBits_segs (s : State) (x : Operands) : (s.testBits x).segs = s.segs := by cases x <;> simp [State.testBits]
@[simp] theorem State.testBits_ip (s : State) (x : Operands) : (s.testBits x).ip = s.ip := by cases x <;> simp [State.testBits]
@[simp] theorem State.testBits_halt (s : State) (x : Operands) : (s.testBits x).halt = s.halt := by cases x <;> simp [State.testBits]
@[simp] theorem State.testBits_trapLatch (s : State) (x : Operands) : (s.testBits x).trapLatch = s.trapLatch := by cases x <;> simp [State.testBits]
@[simp] theorem State.testBits_segOverride (s : State) (x : Operands) : (s.testBits x).segOverride = s.segOverride := by cases x <;> simp [State.testBits]
@[simp] theorem State.testBits_repMode (s : State) (x : Operands) : (s.testBits x).repMode = s.repMode := by cases x <;> simp [State.testBits]
@[simp] theorem State.testBits_firstIp (s : State) (x : Operands) : (s.testBits x).firstIp = s.firstIp := by cases x <;> simp [State.testBits]
@[simp] theorem State.testBits_mem (s : State) (x : Operands) : (s.testBits x).mem = s.mem := by cases x <;> simp [State.testBits]
@[simp] theorem State.testBits_ro (s : State) (x : Operands) : (s.testBits x).ro = s.ro := by cases x <;> simp [State.testBits]
@[simp] theorem State.testBits_pic (s : State) (x : Operands) : (s.testBits x).pic = s.pic := by cases x <;> simp [State.testBits]
@[simp] theorem State.testBits_pit (s : State) (x : Operands) : (s.testBits x).pit = s.pit := by cases x <;> simp [State.testBits]
@[simp] theorem State.testBits_dma (s : State) (x : Operands) : (s.testBits x).dma = s.dma := by cases x <;> simp [State.testBits]
@[simp] theorem State.testBits_ports (s : State) (x : Operands) : (s.testBits x).ports = s.ports := by cases x <;> simp [State.testBits]
@[simp] theorem State.testBits_sched (s : State) (x : Operands) : (s.testBits x).sched = s.sched := by cases x <;> simp [State.testBits]
@[simp] theorem State.testBits_instrCount (s : State) (x : Operands) : (s.testBits x).instrCount = s.instrCount := by cases x <;> simp [State.testBits]
@[simp] theorem State.testBits_running (s : State) (x : Operands) : (s.testBits x).running = s.running := by cases x <;> simp [State.testBits]
@[simp] theorem State.testBits_events (s : State) (x : Operands) : (s.testBits x).events = s.events := by cases x <;> simp [State.testBits]
@[simp] theorem State.testBits_outputs (s : State) (x : Operands) : (s.testBits x).outputs = s.outputs := by cases x <;> simp [State.testBits]

@[simp] theorem State.jumpIf_regs (s : State) (c : Bool) (d : Word) : (s.jumpIf c d).regs = s.regs := by cases c <;> rfl
@[simp] theorem State.jumpIf_segs (s : State) (c : Bool) (d : Word) : (s.jumpIf c d).segs = s.segs := by cases c <;> rfl
@[simp] theorem State.jumpIf_flags (s : State) (c : Bool) (d : Word) : (s.jumpIf c d).flags = s.flags := by cases c <;> rfl
@[simp] theorem State.jumpIf_halt (s : State) (c : Bool) (d : Word) : (s.jumpIf c d).halt = s.halt := by cases c <;> rfl
@[simp] theorem State.jumpIf_trapLatch (s : State) (c : Bool) (d : Word) : (s.jumpIf c d).trapLatch = s.trapLatch := by cases c <;> rfl
@[simp] theorem State.jumpIf_segOverride (s : State) (c : Bool) (d : Word) : (s.jumpIf c d).segOverride = s.segOverride := by cases c <;> rfl
@[simp] theorem State.jumpIf_repMode (s : State) (c : Bool) (d : Word) : (s.jumpIf c d).repMode = s.repMode := by cases c <;> rfl
@[simp] theorem State.jumpIf_firstIp (s : State) (c : Bool) (d : Word) : (s.jumpIf c d).firstIp = s.firstIp := by cases c <;> rfl
@[simp] theorem State.jumpIf_mem (s : State) (c : Bool) (d : Word) : (s.jumpIf c d).mem = s.mem := by cases c <;> rfl
@[simp] theorem State.jumpIf_ro (s : State) (c : Bool) (d : Word) : (s.jumpIf c d).ro = s.ro := by cases c <;> rfl
@[simp] theorem State.jumpIf_pic (s : State) (c : Bool) (d : Word) : (s.jumpIf c d).pic = s.pic := by cases c <;> rfl
@[simp] theorem State.jumpIf_pit (s : State) (c : Bool) (d : Word) : (s.jumpIf c d).pit = s.pit := by cases c <;> rfl
@[simp] theorem State.jumpIf_dma (s : State) (c : Bool) (d : Word) : (s.jumpIf c d).dma = s.dma := by cases c <;> rfl
@[simp] theorem State.jumpIf_ports (s : State) (c : Bool) (d : Word) : (s.jumpIf c d).ports = s.ports := by cases c <;> rfl
@[simp] theorem State.jumpIf_sched (s : State) (c : Bool) (d : Word) : (s.jumpIf c d).sched = s.sched := by cases c <;> rfl
@[simp] theorem State.jumpIf_instrCount (s : State) (c : Bool) (d : Word) : (s.jumpIf c d).instrCount = s.instrCount := by cases c <;> rfl
@[simp] theorem State.jumpIf_running (s : State) (c : Bool) (d : Word) : (s.jumpIf c d).running = s.running := by cases c <;> rfl
@[simp] theorem State.jumpIf_draws (s : State) (c : Bool) (d : Word) : (s.jumpIf c d).draws = s.draws := by cases c <;> rfl
@[simp] theorem State.jumpIf_events (s : State) (c : Bool) (d : Word) : (s.jumpIf c d).events = s.events := by cases c <;> rfl
@[simp] theorem State.jumpIf_outputs (s : State) (c : Bool) (d : Word) : (s.jumpIf c d).outputs = s.outputs := by cases c <;> rfl

@[simp] theorem State.jumpFar_regs (s : State) (sg off : Word) : (s.jumpFar sg off).regs = s.regs := by simp [State.jumpFar]
@[simp] theorem State.jumpFar_flags (s : State) (sg off : Word) : (s.jumpFar sg off).flags = s.flags := by simp [State.jumpFar]
@[simp] theorem State.jumpFar_halt (s : State) (sg off : Word) : (s.jumpFar sg off).halt = s.halt := by simp [State.jumpFar]
@[simp] theorem State.jumpFar_trapLatch (s : State) (sg off : Word) : (s.jumpFar sg off).trapLatch = s.trapLatch := by simp [State.jumpFar]
@[simp] theorem State.jumpFar_segOverride (s : State) (sg off : Word) : (s.jumpFar sg off).segOverride = s.segOverride := by simp [State.jumpFar]
@[simp] theorem State.jumpFar_repMode (s : State) (sg off : Word) : (s.jumpFar sg off).repMode = s.repMode := by simp [State.jumpFar]
@[simp] theorem State.jumpFar_firstIp (s : State) (sg off : Word) : (s.jumpFar sg off).firstIp = s.firstIp := by simp [State.jumpFar]
@[simp] theorem State.jumpFar_mem (s : State) (sg off : Word) : (s.jumpFar sg off).mem = s.mem := by simp [State.jumpFar]
@[simp] theorem State.jumpFar_ro (s : State) (sg off : Word) : (s.jumpFar sg off).ro = s.ro := by simp [State.jumpFar]
@[simp] theorem State.jumpFar_pic (s : State) (sg off : Word) : (s.jumpFar sg off).pic = s.pic := by simp [State.jumpFar]
@[simp] theorem State.jumpFar_pit (s : State) (sg off : Word) : (s.jumpFar sg off).pit = s.pit := by simp [State.jumpFar]
@[simp] theorem State.jumpFar_dma (s : State) (sg off : Word) : (s.jumpFar sg off).dma = s.dma := by simp [State.jumpFar]
@[simp] theorem State.jumpFar_ports (s : State) (sg off : Word) : (s.jumpFar sg off).ports = s.ports := by simp [State.jumpFar]
@[simp] theorem State.jumpFar_sched (s : State) (sg off : Word) : (s.jumpFar sg off).sched = s.sched := by simp [State.jumpFar]
@[simp] theorem State.jumpFar_instrCount (s : State) (sg off : Word) : (s.jumpFar sg off).instrCount = s.instrCount := by simp [State.jumpFar]
@[simp] theorem State.jumpFar_running (s : State) (sg off : Word) : (s.jumpFar sg off).running = s.running := by simp [State.jumpFar]
@[simp] theorem State.jumpFar_draws (s : State) (sg off : Word) : (s.jumpFar sg off).draws = s.draws := by simp [State.jumpFar]
@[simp] theorem State.jumpFar_events (s : State) (sg off : Word) : (s.jumpFar sg off).events = s.events := by simp [State.jumpFar]
@[simp] theorem State.jumpFar_outputs (s : State) (sg off : Word) : (s.jumpFar sg off).outputs = s.outputs := by simp [State.jumpFar]

@[simp] theorem State.callFar_flags (s : State) (sg off : Word) : (s.callFar sg off).flags = s.flags := by simp [State.callFar]
@[simp] theorem State.callFar_halt (s : State) (sg off : Word) : (s.callFar sg off).halt = s.halt := by simp [State.callFar]
@[simp] theorem State.callFar_trapLatch (s : State) (sg off : Word) : (s.callFar sg off).trapLatch = s.trapLatch := by simp [State.callFar]
@[simp] theorem State.callFar_segOverride (s : State) (sg off : Word) : (s.callFar sg off).segOverride = s.segOverride := by simp [State.callFar]
@[simp] theorem State.callFar_repMode (s : State) (sg off : Word) : (s.callFar sg off).repMode = s.repMode := by simp [State.callFar]
@[simp] theorem State.callFar_firstIp (s : State) (sg off : Word) : (s.callFar sg off).firstIp = s.firstIp := by simp [State.callFar]
@[simp] theorem State.callFar_ro (s : State) (sg off : Word) : (s.callFar sg off).ro = s.ro := by simp [State.callFar]
@[simp] theorem State.callFar_pic (s : State) (sg off : Word) : (s.callFar sg off).pic = s.pic := by simp [State.callFar]
@[simp] theorem State.callFar_pit (s : State) (sg off : Word) : (s.callFar sg off).pit = s.pit := by simp [State.callFar]
@[simp] theorem State.callFar_dma (s : State) (sg off : Word) : (s.callFar sg off).dma = s.dma := by simp [State.callFar]
@[simp] theorem State.callFar_ports (s : State) (sg off : Word) : (s.callFar sg off).ports = s.ports := by simp [State.callFar]
@[simp] theorem State.callFar_sched (s : State) (sg off : Word) : (s.callFar sg off).sched = s.sched := by simp [State.callFar]
@[simp] theorem State.callFar_instrCount (s : State) (sg off : Word) : (s.callFar sg off).instrCount = s.instrCount := by simp [State.callFar]
@[simp] theorem State.callFar_running (s : State) (sg off : Word) : (s.callFar sg off).running = s.running := by simp [State.callFar]
@[simp] theorem State.callFar_draws (s : State) (sg off : Word) : (s.callFar sg off).draws = s.draws := by simp [State.callFar]
@[simp] theorem State.callFar_events (s : State) (sg off : Word) : (s.callFar sg off).events = s.events := by simp [State.callFar]

@[simp] theorem State.callNear_segs (s : State) (off : Word) : (s.callNear off).segs = s.segs := by simp [State.callNear]
@[simp] theorem State.callNear_flags (s : State) (off : Word) : (s.callNear off).flags = s.flags := by simp [State.callNear]
@[simp] theorem State.callNear_halt (s : State) (off : Word) : (s.callNear off).halt = s.halt := by simp [State.callNear]
@[simp] theorem State.callNear_trapLatch (s : State) (off : Word) : (s.callNear off).trapLatch = s.trapLatch := by simp [State.callNear]
@[simp] theorem State.callNear_segOverride (s : State) (off : Word) : (s.callNear off).segOverride = s.segOverride := by simp [State.callNear]
@[simp] theorem State.callNear_repMode (s : State) (off : Word) : (s.callNear off).repMode = s.repMode := by simp [State.callNear]
@[simp] theorem State.callNear_firstIp (s : State) (off : Word) : (s.callNear off).firstIp = s.firstIp := by simp [State.callNear]
@[simp] theorem State.callNear_ro (s : State) (off : Word) : (s.callNear off).ro = s.ro := by simp [State.callNear]
@[simp] theorem State.callNear_pic (s : State) (off : Word) : (s.callNear off).pic = s.pic := by simp [State.callNear]
@[simp] theorem State.callNear_pit (s : State) (off : Word) : (s.callNear off).pit = s.pit := by simp [State.callNear]
@[simp] theorem State.callNear_dma (s : State) (off : Word) : (s.callNear off).dma = s.dma := by simp [State.callNear]
@[simp] theorem State.callNear_ports (s : State) (off : Word) : (s.callNear off).ports = s.ports := by simp [State.callNear]
@[simp] theorem State.callNear_sched (s : State) (off : Word) : (s.callNear off).sched = s.sched := by simp [State.callNear]
@[simp] theorem State.callNear_instrCount (s : State) (off : Word) : (s.callNear off).instrCount = s.instrCount := by simp [State.callNear]
@[simp] theorem State.callNear_running (s : State) (off : Word) : (s.callNear off).running = s.running := by simp [State.callNear]
@[simp] theorem State.callNear_draws (s : State) (off : Word) : (s.callNear off).draws = s.draws := by simp [State.callNear]
@[simp] theorem State.callNear_events (s : State) (off : Word) : (s.callNear off).events = s.events := by simp [State.callNear]

@[simp] theorem State.returnNear_segs (s : State) : s.returnNear.segs = s.segs := by simp [State.returnNear]
@[simp] theorem State.returnNear_flags (s : State) : s.returnNear.flags = s.flags := by simp [State.returnNear]
@[simp] theorem State.returnNear_halt (s : State) : s.returnNear.halt = s.halt := by simp [State.returnNear]
@[simp] theorem State.returnNear_trapLatch (s : State) : s.returnNear.trapLatch = s.trapLatch := by simp [State.returnNear]
@[simp] theorem State.returnNear_segOverride (s : State) : s.returnNear.segOverride = s.segOverride := by simp [State.returnNear]
@[simp] theorem State.returnNear_repMode (s : State) : s.returnNear.repMode = s.repMode := by simp [State.returnNear]
@[simp] theorem State.returnNear_firstIp (s : State) : s.returnNear.firstIp = s.firstIp := by simp [State.returnNear]
@[simp] theorem State.returnNear_mem (s : State) : s.returnNear.mem = s.mem := by simp [State.returnNear]
@[simp] theorem State.returnNear_ro (s : State) : s.returnNear.ro = s.ro := by simp [State.returnNear]
@[simp] theorem State.returnNear_pic (s : State) : s.returnNear.pic = s.pic := by simp [State.returnNear]
@[simp] theorem State.returnNear_pit (s : State) : s.returnNear.pit = s.pit := by simp [State.returnNear]
@[simp] theorem State.returnNear_dma (s : State) : s.returnNear.dma = s.dma := by simp [State.returnNear]
@[simp] theorem State.returnNear_ports (s : State) : s.returnNear.ports = s.ports := by simp [State.returnNear]
@[simp] theorem State.returnNear_sched (s : State) : s.returnNear.sched = s.sched := by simp [State.returnNear]
@[simp] theorem State.returnNear_instrCount (s : State) : s.returnNear.instrCount = s.instrCount := by simp [State.returnNear]
@[simp] theorem State.returnNear_running (s : State) : s.returnNear.running = s.running := by simp [State.returnNear]
@[simp] theorem State.returnNear_draws (s : State) : s.returnNear.draws = s.draws := by simp [State.returnNear]
@[simp] theorem State.returnNear_events (s : State) : s.returnNear.events = s.events := by simp [State.returnNear]
@[simp] theorem State.returnNear_outputs (s : State) : s.returnNear.outputs = s.outputs := by simp [State.returnNear]

@[simp] theorem State.returnFar_flags (s : State) : s.returnFar.flags = s.flags := by simp [State.returnFar]
@[simp] theorem State.returnFar_halt (s : State) : s.returnFar.halt = s.halt := by simp [State.returnFar]
@[simp] theorem State.returnFar_trapLatch (s : State) : s.returnFar.trapLatch = s.trapLatch := by simp [State.returnFar]
@[simp] theorem State.returnFar_segOverride (s : State) : s.returnFar.segOverride = s.segOverride := by simp [State.returnFar]
@[simp] theorem State.returnFar_repMode (s : State) : s.returnFar.repMode = s.repMode := by simp [State.returnFar]
@[simp] theorem State.returnFar_firstIp (s : State) : s.returnFar.firstIp = s.firstIp := by simp [State.returnFar]
@[simp] theorem State.returnFar_mem (s : State) : s.returnFar.mem = s.mem := by simp [State.returnFar]
@[simp] theorem State.returnFar_ro (s : State) : s.returnFar.ro = s.ro := by simp [State.returnFar]
@[simp] theorem State.returnFar_pic (s : State) : s.returnFar.pic = s.pic := by simp [State.returnFar]
@[simp] theorem State.returnFar_pit (s : State) : s.returnFar.pit = s.pit := by simp [State.returnFar]
@[simp] theorem State.returnFar_dma (s : State) : s.returnFar.dma = s.dma := by simp [State.returnFar]
@[simp] theorem State.returnFar_ports (s : State) : s.returnFar.ports = s.ports := by simp [State.returnFar]
@[simp] theorem State.returnFar_sched (s : State) : s.returnFar.sched = s.sched := by simp [State.returnFar]
@[simp] theorem State.returnFar_instrCount (s : State) : s.returnFar.instrCount = s.instrCount := by simp [State.returnFar]
@[simp] theorem State.returnFar_running (s : State) : s.returnFar.running = s.running := by simp [State.returnFar]
@[simp] theorem State.returnFar_draws (s : State) : s.returnFar.draws = s.draws := by simp [State.returnFar]
@[simp] theorem State.returnFar_events (s : State) : s.returnFar.events = s.events := by simp [State.returnFar]
@[simp] theorem State.returnFar_outputs (s : State) : s.returnFar.outputs = s.outputs := by simp [State.returnFar]

@[simp] theorem State.release_segs (s : State) (n : Word) : (s.release n).segs = s.segs := rfl
@[simp] theorem State.release_ip (s : State) (n : Word) : (s.release n).ip = s.ip := rfl
@[simp] theorem State.release_flags (s : State) (n : Word) : (s.release n).flags = s.flags := rfl
@[simp] theorem State.release_halt (s : State) (n : Word) : (s.release n).halt = s.halt := rfl
@[simp] theorem State.release_trapLatch (s : State) (n : Word) : (s.release n).trapLatch = s.trapLatch := rfl
@[simp] theorem State.release_segOverride (s : State) (n : Word) : (s.release n).segOverride = s.segOverride := rfl
@[simp] theorem State.release_repMode (s : State) (n : Word) : (s.release n).repMode = s.repMode := rfl
@[simp] theorem State.release_firstIp (s : State) (n : Word) : (s.release n).firstIp = s.firstIp := rfl
@[simp] theorem State.release_mem (s : State) (n : Word) : (s.release n).mem = s.mem := rfl
@[simp] theorem State.release_ro (s : State) (n : Word) : (s.release n).ro = s.ro := rfl
@[simp] theorem State.release_pic (s : State) (n : Word) : (s.release n).pic = s.pic := rfl
@[simp] theorem State.release_pit (s : State) (n : Word) : (s.release n).pit = s.pit := rfl
@[simp] theorem State.release_dma (s : State) (n : Word) : (s.release n).dma = s.dma := rfl
@[simp] theorem State.release_ports (s : State) (n : Word) : (s.release n).ports = s.ports := rfl
@[simp] theorem State.release_sched (s : State) (n : Word) : (s.release n).sched = s.sched := rfl
@[simp] theorem State.release_instrCount (s : State) (n : Word) : (s.release n).instrCount = s.instrCount := rfl
@[simp] theorem State.release_running (s : State) (n : Word) : (s.release n).running = s.running := rfl
@[simp] theorem State.release_draws (s : State) (n : Word) : (s.release n).draws = s.draws := rfl
@[simp] theorem State.release_events (s : State) (n : Word) : (s.release n).events = s.events := rfl
@[simp] theorem State.release_outputs (s : State) (n : Word) : (s.release n).outputs = s.outputs := rfl

@[simp] theorem State.countDown_segs (s : State) : s.countDown.segs = s.segs := rfl
@[simp] theorem State.countDown_ip (s : State) : s.countDown.ip = s.ip := rfl
@[simp] theorem State.countDown_flags (s : State) : s.countDown.flags = s.flags := rfl
@[simp] theorem State.countDown_halt (s : State) : s.countDown.halt = s.halt := rfl
@[simp] theorem State.countDown_trapLatch (s : State) : s.countDown.trapLatch = s.trapLatch := rfl
@[simp] theorem State.countDown_segOverride (s : State) : s.countDown.segOverride = s.segOverride := rfl
@[simp] theorem State.countDown_repMode (s : State) : s.countDown.repMode = s.repMode := rfl
@[simp] theorem State.countDown_firstIp (s : State) : s.countDown.firstIp = s.firstIp := rfl
@[simp] theorem State.countDown_mem (s : State) : s.countDown.mem = s.mem := rfl
@[simp] theorem State.countDown_ro (s : State) : s.countDown.ro = s.ro := rfl
@[simp] theorem State.countDown_pic (s : State) : s.countDown.pic = s.pic := rfl
@[simp] theorem State.countDown_pit (s : State) : s.countDown.pit = s.pit := rfl
@[simp] theorem State.countDown_dma (s : State) : s.countDown.dma = s.dma := rfl
@[simp] theorem State.countDown_ports (s : State) : s.countDown.ports = s.ports := rfl
@[simp] theorem State.countDown_sched (s : State) : s.countDown.sched = s.sched := rfl
@[simp] theorem State.countDown_instrCount (s : State) : s.countDown.instrCount = s.instrCount := rfl
@[simp] theorem State.countDown_running (s : State) : s.countDown.running = s.running := rfl
@[simp] theorem State.countDown_draws (s : State) : s.countDown.draws = s.draws := rfl
@[simp] theorem State.countDown_events (s : State) : s.countDown.events = s.events := rfl
@[simp] theorem State.countDown_outputs (s : State) : s.countDown.outputs = s.outputs := rfl

@[simp] theorem State.shift_segs (s : State) (op : ShiftOp) (x : Operand) (n : Nat) : (s.shift op x n).segs = s.segs := by simp only [State.shift]; split; rfl; cases x <;> simp
@[simp] theorem State.shift_ip (s : State) (op : ShiftOp) (x : Operand) (n : Nat) : (s.shift op x n).ip = s.ip := by simp only [State.shift]; split; rfl; cases x <;> simp
@[simp] theorem State.shift_halt (s : State) (op : ShiftOp) (x : Operand) (n : Nat) : (s.shift op x n).halt = s.halt := by simp only [State.shift]; split; rfl; cases x <;> simp
@[simp] theorem State.shift_trapLatch (s : State) (op : ShiftOp) (x : Operand) (n : Nat) : (s.shift op x n).trapLatch = s.trapLatch := by simp only [State.shift]; split; rfl; cases x <;> simp
@[simp] theorem State.shift_segOverride (s : State) (op : ShiftOp) (x : Operand) (n : Nat) : (s.shift op x n).segOverride = s.segOverride := by simp only [State.shift]; split; rfl; cases x <;> simp
@[simp] theorem State.shift_repMode (s : State) (op : ShiftOp) (x : Operand) (n : Nat) : (s.shift op x n).repMode = s.repMode := by simp only [State.shift]; split; rfl; cases x <;> simp
@[simp] theorem State.shift_firstIp (s : State) (op : ShiftOp) (x : Operand) (n : Nat) : (s.shift op x n).firstIp = s.firstIp := by simp only [State.shift]; split; rfl; cases x <;> simp
@[simp] theorem State.shift_ro (s : State) (op : ShiftOp) (x : Operand) (n : Nat) : (s.shift op x n).ro = s.ro := by simp only [State.shift]; split; rfl; cases x <;> simp
@[simp] theorem State.shift_pic (s : State) (op : ShiftOp) (x : Operand) (n : Nat) : (s.shift op x n).pic = s.pic := by simp only [State.shift]; split; rfl; cases x <;> simp
@[simp] theorem State.shift_pit (s : State) (op : ShiftOp) (x : Operand) (n : Nat) : (s.shift op x n).pit = s.pit := by simp only [State.shift]; split; rfl; cases x <;> simp
@[simp] theorem State.shift_dma (s : State) (op : ShiftOp) (x : Operand) (n : Nat) : (s.shift op x n).dma = s.dma := by simp only [State.shift]; split; rfl; cases x <;> simp
@[simp] theorem State.shift_ports (s : State) (op : ShiftOp) (x : Operand) (n : Nat) : (s.shift op x n).ports = s.ports := by simp only [State.shift]; split; rfl; cases x <;> simp
@[simp] theorem State.shift_sched (s : State) (op : ShiftOp) (x : Operand) (n : Nat) : (s.shift op x n).sched = s.sched := by simp only [State.shift]; split; rfl; cases x <;> simp
@[simp] theorem State.shift_instrCount (s : State) (op : ShiftOp) (x : Operand) (n : Nat) : (s.shift op x n).instrCount = s.instrCount := by simp only [State.shift]; split; rfl; cases x <;> simp
@[simp] theorem State.shift_running (s : State) (op : ShiftOp) (x : Operand) (n : Nat) : (s.shift op x n).running = s.running := by simp only [State.shift]; split; rfl; cases x <;> simp
@[simp] theorem State.shift_events (s : State) (op : ShiftOp) (x : Operand) (n : Nat) : (s.shift op x n).events = s.events := by simp only [State.shift]; split; rfl; cases x <;> simp

@[simp] theorem State.mulFlags_regs (s : State) (c : Bool) : (s.mulFlags c).regs = s.regs := rfl
@[simp] theorem State.mulFlags_segs (s : State) (c : Bool) : (s.mulFlags c).segs = s.segs := rfl
@[simp] theorem State.mulFlags_ip (s : State) (c : Bool) : (s.mulFlags c).ip = s.ip := rfl
@[simp] theorem State.mulFlags_halt (s : State) (c : Bool) : (s.mulFlags c).halt = s.halt := rfl
@[simp] theorem State.mulFlags_trapLatch (s : State) (c : Bool) : (s.mulFlags c).trapLatch = s.trapLatch := rfl
@[simp] theorem State.mulFlags_segOverride (s : State) (c : Bool) : (s.mulFlags c).segOverride = s.segOverride := rfl
@[simp] theorem State.mulFlags_repMode (s : State) (c : Bool) : (s.mulFlags c).repMode = s.repMode := rfl
@[simp] theorem State.mulFlags_firstIp (s : State) (c : Bool) : (s.mulFlags c).firstIp = s.firstIp := rfl
@[simp] theorem State.mulFlags_mem (s : State) (c : Bool) : (s.mulFlags c).mem = s.mem := rfl
@[simp] theorem State.mulFlags_ro (s : State) (c : Bool) : (s.mulFlags c).ro = s.ro := rfl
@[simp] theorem State.mulFlags_pic (s : State) (c : Bool) : (s.mulFlags c).pic = s.pic := rfl
@[simp] theorem State.mulFlags_pit (s : State) (c : Bool) : (s.mulFlags c).pit = s.pit := rfl
@[simp] theorem State.mulFlags_dma (s : State) (c : Bool) : (s.mulFlags c).dma = s.dma := rfl
@[simp] theorem State.mulFlags_ports (s : State) (c : Bool) : (s.mulFlags c).ports = s.ports := rfl
@[simp] theorem State.mulFlags_sched (s : State) (c : Bool) : (s.mulFlags c).sched = s.sched := rfl
@[simp] theorem State.mulFlags_instrCount (s : State) (c : Bool) : (s.mulFlags c).instrCount = s.instrCount := rfl
@[simp] theorem State.mulFlags_running (s : State) (c : Bool) : (s.mulFlags c).running = s.running := rfl
@[simp] theorem State.mulFlags_events (s : State) (c : Bool) : (s.mulFlags c).events = s.events := rfl
@[simp] theorem State.mulFlags_outputs (s : State) (c : Bool) : (s.mulFlags c).outputs = s.outputs := rfl

@[simp] theorem State.divFlags_regs (s : State) : s.divFlags.regs = s.regs := rfl
@[simp] theorem State.divFlags_segs (s : State) : s.divFlags.segs = s.segs := rfl
@[simp] theorem State.divFlags_ip (s : State) : s.divFlags.ip = s.ip := rfl
@[simp] theorem State.divFlags_halt (s : State) : s.divFlags.halt = s.halt := rfl
@[simp] theorem State.divFlags_trapLatch (s : State) : s.divFlags.trapLatch = s.trapLatch := rfl
@[simp] theorem State.divFlags_segOverride (s : State) : s.divFlags.segOverride = s.segOverride := rfl
@[simp] theorem State.divFlags_repMode (s : State) : s.divFlags.repMode = s.repMode := rfl
@[simp] theorem State.divFlags_firstIp (s : State) : s.divFlags.firstIp = s.firstIp := rfl
@[simp] theorem State.divFlags_mem (s : State) : s.divFlags.mem = s.mem := rfl
@[simp] theorem State.divFlags_ro (s : State) : s.divFlags.ro = s.ro := rfl
@[simp] theorem State.divFlags_pic (s : State) : s.divFlags.pic = s.pic := rfl
@[simp] theorem State.divFlags_pit (s : State) : s.divFlags.pit = s.pit := rfl
@[simp] theorem State.divFlags_dma (s : State) : s.divFlags.dma = s.dma := rfl
@[simp] theorem State.divFlags_ports (s : State) : s.divFlags.ports = s.ports := rfl
@[simp] theorem State.divFlags_sched (s : State) : s.divFlags.sched = s.sched := rfl
@[simp] theorem State.divFlags_instrCount (s : State) : s.divFlags.instrCount = s.instrCount := rfl
@[simp] theorem State.divFlags_running (s : State) : s.divFlags.running = s.running := rfl
@[simp] theorem State.divFlags_events (s : State) : s.divFlags.events = s.events := rfl
@[simp] theorem State.divFlags_outputs (s : State) : s.divFlags.outputs = s.outputs := rfl

@[simp] theorem State.divideError_halt (s : State) : s.divideError.halt = s.halt := by simp [State.divideError]
@[simp] theorem State.divideError_trapLatch (s : State) : s.divideError.trapLatch = s.trapLatch := by simp [State.divideError]
@[simp] theorem State.divideError_segOverride (s : State) : s.divideError.segOverride = s.segOverride := by simp [State.divideError]
@[simp] theorem State.divideError_repMode (s : State) : s.divideError.repMode = s.repMode := by simp [State.divideError]
@[simp] theorem State.divideError_firstIp (s : State) : s.divideError.firstIp = s.firstIp := by simp [State.divideError]
@[simp] theorem State.divideError_ro (s : State) : s.divideError.ro = s.ro := by simp [State.divideError]
@[simp] theorem State.divideError_pic (s : State) : s.divideError.pic = s.pic := by simp [State.divideError]
@[simp] theorem State.divideError_pit (s : State) : s.divideError.pit = s.pit := by simp [State.divideError]
@[simp] theorem State.divideError_dma (s : State) : s.divideError.dma = s.dma := by simp [State.divideError]
@[simp] theorem State.divideError_ports (s : State) : s.divideError.ports = s.ports := by simp [State.divideError]
@[simp] theorem State.divideError_sched (s : State) : s.divideError.sched = s.sched := by simp [State.divideError]
@[simp] theorem State.divideError_instrCount (s : State) : s.divideError.instrCount = s.instrCount := by simp [State.divideError]
@[simp] theorem State.divideError_running (s : State) : s.divideError.running = s.running := by simp [State.divideError]
@[simp] theorem State.divideError_draws (s : State) : s.divideError.draws = s.draws := by simp [State.divideError]
@[simp] theorem State.divideError_events (s : State) : s.divideError.events = s.events := by simp [State.divideError]

@[simp] theorem State.setDiv8_segs (s : State) (q r : Byte) : (s.setDiv8 q r).segs = s.segs := rfl
@[simp] theorem State.setDiv8_ip (s : State) (q r : Byte) : (s.setDiv8 q r).ip = s.ip := rfl
@[simp] theorem State.setDiv8_halt (s : State) (q r : Byte) : (s.setDiv8 q r).halt = s.halt := rfl
@[simp] theorem State.setDiv8_trapLatch (s : State) (q r : Byte) : (s.setDiv8 q r).trapLatch = s.trapLatch := rfl
@[simp] theorem State.setDiv8_segOverride (s : State) (q r : Byte) : (s.setDiv8 q r).segOverride = s.segOverride := rfl
@[simp] theorem State.setDiv8_repMode (s : State) (q r : Byte) : (s.setDiv8 q r).repMode = s.repMode := rfl
@[simp] theorem State.setDiv8_firstIp (s : State) (q r : Byte) : (s.setDiv8 q r).firstIp = s.firstIp := rfl
@[simp] theorem State.setDiv8_mem (s : State) (q r : Byte) : (s.setDiv8 q r).mem = s.mem := rfl
@[simp] theorem State.setDiv8_ro (s : State) (q r : Byte) : (s.setDiv8 q r).ro = s.ro := rfl
@[simp] theorem State.setDiv8_pic (s : State) (q r : Byte) : (s.setDiv8 q r).pic = s.pic := rfl
@[simp] theorem State.setDiv8_pit (s : State) (q r : Byte) : (s.setDiv8 q r).pit = s.pit := rfl
@[simp] theorem State.setDiv8_dma (s : State) (q r : Byte) : (s.setDiv8 q r).dma = s.dma := rfl
@[simp] theorem State.setDiv8_ports (s : State) (q r : Byte) : (s.setDiv8 q r).ports = s.ports := rfl
@[simp] theorem State.setDiv8_sched (s : State) (q r : Byte) : (s.setDiv8 q r).sched = s.sched := rfl
@[simp] theorem State.setDiv8_instrCount (s : State) (q r : Byte) : (s.setDiv8 q r).instrCount = s.instrCount := rfl
@[simp] theorem State.setDiv8_running (s : State) (q r : Byte) : (s.setDiv8 q r).running = s.running := rfl
@[simp] theorem State.setDiv8_events (s : State) (q r : Byte) : (s.setDiv8 q r).events = s.events := rfl
@[simp] theorem State.setDiv8_outputs (s : State) (q r : Byte) : (s.setDiv8 q r).outputs = s.outputs := rfl

@[simp] theorem State.setDiv16_segs (s : State) (q r : Word) : (s.setDiv16 q r).segs = s.segs := rfl
@[simp] theorem State.setDiv16_ip (s : State) (q r : Word) : (s.setDiv16 q r).ip = s.ip := rfl
@[simp] theorem State.setDiv16_halt (s : State) (q r : Word) : (s.setDiv16 q r).halt = s.halt := rfl
@[simp] theorem State.setDiv16_trapLatch (s : State) (q r : Word) : (s.setDiv16 q r).trapLatch = s.trapLatch := rfl
@[simp] theorem State.setDiv16_segOverride (s : State) (q r : Word) : (s.setDiv16 q r).segOverride = s.segOverride := rfl
@[simp] theorem State.setDiv16_repMode (s : State) (q r : Word) : (s.setDiv16 q r).repMode = s.repMode := rfl
@[simp] theorem State.setDiv16_firstIp (s : State) (q r : Word) : (s.setDiv16 q r).firstIp = s.firstIp := rfl
@[simp] theorem State.setDiv16_mem (s : State) (q r : Word) : (s.setDiv16 q r).mem = s.mem := rfl
@[simp] theorem State.setDiv16_ro (s : State) (q r : Word) : (s.setDiv16 q r).ro = s.ro := rfl
@[simp] theorem State.setDiv16_pic (s : State) (q r : Word) : (s.setDiv16 q r).pic = s.pic := rfl
@[simp] theorem State.setDiv16_pit (s : State) (q r : Word) : (s.setDiv16 q r).pit = s.pit := rfl
@[simp] theorem State.setDiv16_dma (s : State) (q r : Word) : (s.setDiv16 q r).dma = s.dma := rfl
@[simp] theorem State.setDiv16_ports (s : State) (q r : Word) : (s.setDiv16 q r).ports = s.ports := rfl
@[simp] theorem State.setDiv16_sched (s : State) (q r : Word) : (s.setDiv16 q r).sched = s.sched := rfl
@[simp] theorem State.setDiv16_instrCount (s : State) (q r : Word) : (s.setDiv16 q r).instrCount = s.instrCount := rfl
@[simp] theorem State.setDiv16_running (s : State) (q r : Word) : (s.setDiv16 q r).running = s.running := rfl
@[simp] theorem State.setDiv16_events (s : State) (q r : Word) : (s.setDiv16 q r).events = s.events := rfl
@[simp] theorem State.setDiv16_outputs (s : State) (q r : Word) : (s.setDiv16 q r).outputs = s.outputs := rfl

@[simp] theorem State.mulInto_segs (s : State) (r : Reg16) (a b : Word) : (s.mulInto r a b).segs = s.segs := rfl
@[simp] theorem State.mulInto_ip (s : State) (r : Reg16) (a b : Word) : (s.mulInto r a b).ip = s.ip := rfl
@[simp] theorem State.mulInto_halt (s : State) (r : Reg16) (a b : Word) : (s.mulInto r a b).halt = s.halt := rfl
@[simp] theorem State.mulInto_trapLatch (s : State) (r : Reg16) (a b : Word) : (s.mulInto r a b).trapLatch = s.trapLatch := rfl
@[simp] theorem State.mulInto_segOverride (s : State) (r : Reg16) (a b : Word) : (s.mulInto r a b).segOverride = s.segOverride := rfl
@[simp] theorem State.mulInto_repMode (s : State) (r : Reg16) (a b : Word) : (s.mulInto r a b).repMode = s.repMode := rfl
@[simp] theorem State.mulInto_firstIp (s : State) (r : Reg16) (a b : Word) : (s.mulInto r a b).firstIp = s.firstIp := rfl
@[simp] theorem State.mulInto_mem (s : State) (r : Reg16) (a b : Word) : (s.mulInto r a b).mem = s.mem := rfl
@[simp] theorem State.mulInto_ro (s : State) (r : Reg16) (a b : Word) : (s.mulInto r a b).ro = s.ro := rfl
@[simp] theorem State.mulInto_pic (s : State) (r : Reg16) (a b : Word) : (s.mulInto r a b).pic = s.pic := rfl
@[simp] theorem State.mulInto_pit (s : State) (r : Reg16) (a b : Word) : (s.mulInto r a b).pit = s.pit := rfl
@[simp] theorem State.mulInto_dma (s : State) (r : Reg16) (a b : Word) : (s.mulInto r a b).dma = s.dma := rfl
@[simp] theorem State.mulInto_ports (s : State) (r : Reg16) (a b : Word) : (s.mulInto r a b).ports = s.ports := rfl
@[simp] theorem State.mulInto_sched (s : State) (r : Reg16) (a b : Word) : (s.mulInto r a b).sched = s.sched := rfl
@[simp] theorem State.mulInto_instrCount (s : State) (r : Reg16) (a b : Word) : (s.mulInto r a b).instrCount = s.instrCount := rfl
@[simp] theorem State.mulInto_running (s : State) (r : Reg16) (a b : Word) : (s.mulInto r a b).running = s.running := rfl
@[simp] theorem State.mulInto_events (s : State) (r : Reg16) (a b : Word) : (s.mulInto r a b).events = s.events := rfl
@[simp] theorem State.mulInto_outputs (s : State) (r : Reg16) (a b : Word) : (s.mulInto r a b).outputs = s.outputs := rfl

@[simp] theorem State.decimalAdjusted_segs (s : State) (al : Byte) (af cf : Bool) : (s.decimalAdjusted al af cf).segs = s.segs := rfl
@[simp] theorem State.decimalAdjusted_ip (s : State) (al : Byte) (af cf : Bool) : (s.decimalAdjusted al af cf).ip = s.ip := rfl
@[simp] theorem State.decimalAdjusted_halt (s : State) (al : Byte) (af cf : Bool) : (s.decimalAdjusted al af cf).halt = s.halt := rfl
@[simp] theorem State.decimalAdjusted_trapLatch (s : State) (al : Byte) (af cf : Bool) : (s.decimalAdjusted al af cf).trapLatch = s.trapLatch := rfl
@[simp] theorem State.decimalAdjusted_segOverride (s : State) (al : Byte) (af cf : Bool) : (s.decimalAdjusted al af cf).segOverride = s.segOverride := rfl
@[simp] theorem State.decimalAdjusted_repMode (s : State) (al : Byte) (af cf : Bool) : (s.decimalAdjusted al af cf).repMode = s.repMode := rfl
@[simp] theorem State.decimalAdjusted_firstIp (s : State) (al : Byte) (af cf : Bool) : (s.decimalAdjusted al af cf).firstIp = s.firstIp := rfl
@[simp] theorem State.decimalAdjusted_mem (s : State) (al : Byte) (af cf : Bool) : (s.decimalAdjusted al af cf).mem = s.mem := rfl
@[simp] theorem State.decimalAdjusted_ro (s : State) (al : Byte) (af cf : Bool) : (s.decimalAdjusted al af cf).ro = s.ro := rfl
@[simp] theorem State.decimalAdjusted_pic (s : State) (al : Byte) (af cf : Bool) : (s.decimalAdjusted al af cf).pic = s.pic := rfl
@[simp] theorem State.decimalAdjusted_pit (s : State) (al : Byte) (af cf : Bool) : (s.decimalAdjusted al af cf).pit = s.pit := rfl
@[simp] theorem State.decimalAdjusted_dma (s : State) (al : Byte) (af cf : Bool) : (s.decimalAdjusted al af cf).dma = s.dma := rfl
@[simp] theorem State.decimalAdjusted_ports (s : State) (al : Byte) (af cf : Bool) : (s.decimalAdjusted al af cf).ports = s.ports := rfl
@[simp] theorem State.decimalAdjusted_sched (s : State) (al : Byte) (af cf : Bool) : (s.decimalAdjusted al af cf).sched = s.sched := rfl
@[simp] theorem State.decimalAdjusted_instrCount (s : State) (al : Byte) (af cf : Bool) : (s.decimalAdjusted al af cf).instrCount = s.instrCount := rfl
@[simp] theorem State.decimalAdjusted_running (s : State) (al : Byte) (af cf : Bool) : (s.decimalAdjusted al af cf).running = s.running := rfl
@[simp] theorem State.decimalAdjusted_events (s : State) (al : Byte) (af cf : Bool) : (s.decimalAdjusted al af cf).events = s.events := rfl
@[simp] theorem State.decimalAdjusted_outputs (s : State) (al : Byte) (af cf : Bool) : (s.decimalAdjusted al af cf).outputs = s.outputs := rfl

@[simp] theorem State.asciiAdjusted_segs (s : State) (ah al : Byte) (c : Bool) : (s.asciiAdjusted ah al c).segs = s.segs := rfl
@[simp] theorem State.asciiAdjusted_ip (s : State) (ah al : Byte) (c : Bool) : (s.asciiAdjusted ah al c).ip = s.ip := rfl
@[simp] theorem State.asciiAdjusted_halt (s : State) (ah al : Byte) (c : Bool) : (s.asciiAdjusted ah al c).halt = s.halt := rfl
@[simp] theorem State.asciiAdjusted_trapLatch (s : State) (ah al : Byte) (c : Bool) : (s.asciiAdjusted ah al c).trapLatch = s.trapLatch := rfl
@[simp] theorem State.asciiAdjusted_segOverride (s : State) (ah al : Byte) (c : Bool) : (s.asciiAdjusted ah al c).segOverride = s.segOverride := rfl
@[simp] theorem State.asciiAdjusted_repMode (s : State) (ah al : Byte) (c : Bool) : (s.asciiAdjusted ah al c).repMode = s.repMode := rfl
@[simp] theorem State.asciiAdjusted_firstIp (s : State) (ah al : Byte) (c : Bool) : (s.asciiAdjusted ah al c).firstIp = s.firstIp := rfl
@[simp] theorem State.asciiAdjusted_mem (s : State) (ah al : Byte) (c : Bool) : (s.asciiAdjusted ah al c).mem = s.mem := rfl
@[simp] theorem State.asciiAdjusted_ro (s : State) (ah al : Byte) (c : Bool) : (s.asciiAdjusted ah al c).ro = s.ro := rfl
@[simp] theorem State.asciiAdjusted_pic (s : State) (ah al : Byte) (c : Bool) : (s.asciiAdjusted ah al c).pic = s.pic := rfl
@[simp] theorem State.asciiAdjusted_pit (s : State) (ah al : Byte) (c : Bool) : (s.asciiAdjusted ah al c).pit = s.pit := rfl
@[simp] theorem State.asciiAdjusted_dma (s : State) (ah al : Byte) (c : Bool) : (s.asciiAdjusted ah al c).dma = s.dma := rfl
@[simp] theorem State.asciiAdjusted_ports (s : State) (ah al : Byte) (c : Bool) : (s.asciiAdjusted ah al c).ports = s.ports := rfl
@[simp] theorem State.asciiAdjusted_sched (s : State) (ah al : Byte) (c : Bool) : (s.asciiAdjusted ah al c).sched = s.sched := rfl
@[simp] theorem State.asciiAdjusted_instrCount (s : State) (ah al : Byte) (c : Bool) : (s.asciiAdjusted ah al c).instrCount = s.instrCount := rfl
@[simp] theorem State.asciiAdjusted_running (s : State) (ah al : Byte) (c : Bool) : (s.asciiAdjusted ah al c).running = s.running := rfl
@[simp] theorem State.asciiAdjusted_events (s : State) (ah al : Byte) (c : Bool) : (s.asciiAdjusted ah al c).events = s.events := rfl
@[simp] theorem State.asciiAdjusted_outputs (s : State) (ah al : Byte) (c : Bool) : (s.asciiAdjusted ah al c).outputs = s.outputs := rfl

@[simp] theorem State.baseAdjusted_segs (s : State) (ah al : Byte) : (s.baseAdjusted ah al).segs = s.segs := rfl
@[simp] theorem State.baseAdjusted_ip (s : State) (ah al : Byte) : (s.baseAdjusted ah al).ip = s.ip := rfl
@[simp] theorem State.baseAdjusted_halt (s : State) (ah al : Byte) : (s.baseAdjusted ah al).halt = s.halt := rfl
@[simp] theorem State.baseAdjusted_trapLatch (s : State) (ah al : Byte) : (s.baseAdjusted ah al).trapLatch = s.trapLatch := rfl
@[simp] theorem State.baseAdjusted_segOverride (s : State) (ah al : Byte) : (s.baseAdjusted ah al).segOverride = s.segOverride := rfl
@[simp] theorem State.baseAdjusted_repMode (s : State) (ah al : Byte) : (s.baseAdjusted ah al).repMode = s.repMode := rfl
@[simp] theorem State.baseAdjusted_firstIp (s : State) (ah al : Byte) : (s.baseAdjusted ah al).firstIp = s.firstIp := rfl
@[simp] theorem State.baseAdjusted_mem (s : State) (ah al : Byte) : (s.baseAdjusted ah al).mem = s.mem := rfl
@[simp] theorem State.baseAdjusted_ro (s : State) (ah al : Byte) : (s.baseAdjusted ah al).ro = s.ro := rfl
@[simp] theorem State.baseAdjusted_pic (s : State) (ah al : Byte) : (s.baseAdjusted ah al).pic = s.pic := rfl
@[simp] theorem State.baseAdjusted_pit (s : State) (ah al : Byte) : (s.baseAdjusted ah al).pit = s.pit := rfl
@[simp] theorem State.baseAdjusted_dma (s : State) (ah al : Byte) : (s.baseAdjusted ah al).dma = s.dma := rfl
@[simp] theorem State.baseAdjusted_ports (s : State) (ah al : Byte) : (s.baseAdjusted ah al).ports = s.ports := rfl
@[simp] theorem State.baseAdjusted_sched (s : State) (ah al : Byte) : (s.baseAdjusted ah al).sched = s.sched := rfl
@[simp] theorem State.baseAdjusted_instrCount (s : State) (ah al : Byte) : (s.baseAdjusted ah al).instrCount = s.instrCount := rfl
@[simp] theorem State.baseAdjusted_running (s : State) (ah al : Byte) : (s.baseAdjusted ah al).running = s.running := rfl
@[simp] theorem State.baseAdjusted_events (s : State) (ah al : Byte) : (s.baseAdjusted ah al).events = s.events := rfl
@[simp] theorem State.baseAdjusted_outputs (s : State) (ah al : Byte) : (s.baseAdjusted ah al).outputs = s.outputs := rfl

@[simp] theorem State.illegal_halt (s : State) (p : Config.IllegalPolicy) : (s.illegal p).halt = s.halt := by cases p <;> simp [State.illegal]
@[simp] theorem State.illegal_trapLatch (s : State) (p : Config.IllegalPolicy) : (s.illegal p).trapLatch = s.trapLatch := by cases p <;> simp [State.illegal]
@[simp] theorem State.illegal_segOverride (s : State) (p : Config.IllegalPolicy) : (s.illegal p).segOverride = s.segOverride := by cases p <;> simp [State.illegal]
@[simp] theorem State.illegal_repMode (s : State) (p : Config.IllegalPolicy) : (s.illegal p).repMode = s.repMode := by cases p <;> simp [State.illegal]
@[simp] theorem State.illegal_firstIp (s : State) (p : Config.IllegalPolicy) : (s.illegal p).firstIp = s.firstIp := by cases p <;> simp [State.illegal]
@[simp] theorem State.illegal_ro (s : State) (p : Config.IllegalPolicy) : (s.illegal p).ro = s.ro := by cases p <;> simp [State.illegal]
@[simp] theorem State.illegal_pic (s : State) (p : Config.IllegalPolicy) : (s.illegal p).pic = s.pic := by cases p <;> simp [State.illegal]
@[simp] theorem State.illegal_pit (s : State) (p : Config.IllegalPolicy) : (s.illegal p).pit = s.pit := by cases p <;> simp [State.illegal]
@[simp] theorem State.illegal_dma (s : State) (p : Config.IllegalPolicy) : (s.illegal p).dma = s.dma := by cases p <;> simp [State.illegal]
@[simp] theorem State.illegal_ports (s : State) (p : Config.IllegalPolicy) : (s.illegal p).ports = s.ports := by cases p <;> simp [State.illegal]
@[simp] theorem State.illegal_sched (s : State) (p : Config.IllegalPolicy) : (s.illegal p).sched = s.sched := by cases p <;> simp [State.illegal]
@[simp] theorem State.illegal_instrCount (s : State) (p : Config.IllegalPolicy) : (s.illegal p).instrCount = s.instrCount := by cases p <;> simp [State.illegal]
@[simp] theorem State.illegal_running (s : State) (p : Config.IllegalPolicy) : (s.illegal p).running = s.running := by cases p <;> simp [State.illegal]
@[simp] theorem State.illegal_draws (s : State) (p : Config.IllegalPolicy) : (s.illegal p).draws = s.draws := by cases p <;> simp [State.illegal]
@[simp] theorem State.illegal_events (s : State) (p : Config.IllegalPolicy) : (s.illegal p).events = s.events := by cases p <;> simp [State.illegal]

@[simp] theorem State.popInto_segs (s : State) (r : Reg16) : (s.popInto r).segs = s.segs := rfl
@[simp] theorem State.popInto_ip (s : State) (r : Reg16) : (s.popInto r).ip = s.ip := rfl
@[simp] theorem State.popInto_flags (s : State) (r : Reg16) : (s.popInto r).flags = s.flags := rfl
@[simp] theorem State.popInto_halt (s : State) (r : Reg16) : (s.popInto r).halt = s.halt := rfl
@[simp] theorem State.popInto_trapLatch (s : State) (r : Reg16) : (s.popInto r).trapLatch = s.trapLatch := rfl
@[simp] theorem State.popInto_segOverride (s : State) (r : Reg16) : (s.popInto r).segOverride = s.segOverride := rfl
@[simp] theorem State.popInto_repMode (s : State) (r : Reg16) : (s.popInto r).repMode = s.repMode := rfl
@[simp] theorem State.popInto_firstIp (s : State) (r : Reg16) : (s.popInto r).firstIp = s.firstIp := rfl
@[simp] theorem State.popInto_mem (s : State) (r : Reg16) : (s.popInto r).mem = s.mem := rfl
@[simp] theorem State.popInto_ro (s : State) (r : Reg16) : (s.popInto r).ro = s.ro := rfl
@[simp] theorem State.popInto_pic (s : State) (r : Reg16) : (s.popInto r).pic = s.pic := rfl
@[simp] theorem State.popInto_pit (s : State) (r : Reg16) : (s.popInto r).pit = s.pit := rfl
@[simp] theorem State.popInto_dma (s : State) (r : Reg16) : (s.popInto r).dma = s.dma := rfl
@[simp] theorem State.popInto_ports (s : State) (r : Reg16) : (s.popInto r).ports = s.ports := rfl
@[simp] theorem State.popInto_sched (s : State) (r : Reg16) : (s.popInto r).sched = s.sched := rfl
@[simp] theorem State.popInto_instrCount (s : State) (r : Reg16) : (s.popInto r).instrCount = s.instrCount := rfl
@[simp] theorem State.popInto_running (s : State) (r : Reg16) : (s.popInto r).running = s.running := rfl
@[simp] theorem State.popInto_draws (s : State) (r : Reg16) : (s.popInto r).draws = s.draws := rfl
@[simp] theorem State.popInto_events (s : State) (r : Reg16) : (s.popInto r).events = s.events := rfl
@[simp] theorem State.popInto_outputs (s : State) (r : Reg16) : (s.popInto r).outputs = s.outputs := rfl

@[simp] theorem State.copyFrame_segs (s : State) : s.copyFrame.segs = s.segs := by simp [State.copyFrame]
@[simp] theorem State.copyFrame_ip (s : State) : s.copyFrame.ip = s.ip := by simp [State.copyFrame]
@[simp] theorem State.copyFrame_flags (s : State) : s.copyFrame.flags = s.flags := by simp [State.copyFrame]
@[simp] theorem State.copyFrame_halt (s : State) : s.copyFrame.halt = s.halt := by simp [State.copyFrame]
@[simp] theorem State.copyFrame_trapLatch (s : State) : s.copyFrame.trapLatch = s.trapLatch := by simp [State.copyFrame]
@[simp] theorem State.copyFrame_segOverride (s : State) : s.copyFrame.segOverride = s.segOverride := by simp [State.copyFrame]
@[simp] theorem State.copyFrame_repMode (s : State) : s.copyFrame.repMode = s.repMode := by simp [State.copyFrame]
@[simp] theorem State.copyFrame_firstIp (s : State) : s.copyFrame.firstIp = s.firstIp := by simp [State.copyFrame]
@[simp] theorem State.copyFrame_ro (s : State) : s.copyFrame.ro = s.ro := by simp [State.copyFrame]
@[simp] theorem State.copyFrame_pic (s : State) : s.copyFrame.pic = s.pic := by simp [State.copyFrame]
@[simp] theorem State.copyFrame_pit (s : State) : s.copyFrame.pit = s.pit := by simp [State.copyFrame]
@[simp] theorem State.copyFrame_dma (s : State) : s.copyFrame.dma = s.dma := by simp [State.copyFrame]
@[simp] theorem State.copyFrame_ports (s : State) : s.copyFrame.ports = s.ports := by simp [State.copyFrame]
@[simp] theorem State.copyFrame_sched (s : State) : s.copyFrame.sched = s.sched := by simp [State.copyFrame]
@[simp] theorem State.copyFrame_instrCount (s : State) : s.copyFrame.instrCount = s.instrCount := by simp [State.copyFrame]
@[simp] theorem State.copyFrame_running (s : State) : s.copyFrame.running = s.running := by simp [State.copyFrame]
@[simp] theorem State.copyFrame_draws (s : State) : s.copyFrame.draws = s.draws := by simp [State.copyFrame]
@[simp] theorem State.copyFrame_events (s : State) : s.copyFrame.events = s.events := by simp [State.copyFrame]

@[simp] theorem State.copyFrames_segs (s : State) (n : Nat) : (s.copyFrames n).segs = s.segs := by induction n generalizing s with | zero => rfl | succ n ih => simp [State.copyFrames, ih]
@[simp] theorem State.copyFrames_ip (s : State) (n : Nat) : (s.copyFrames n).ip = s.ip := by induction n generalizing s with | zero => rfl | succ n ih => simp [State.copyFrames, ih]
@[simp] theorem State.copyFrames_flags (s : State) (n : Nat) : (s.copyFrames n).flags = s.flags := by induction n generalizing s with | zero => rfl | succ n ih => simp [State.copyFrames, ih]
@[simp] theorem State.copyFrames_halt (s : State) (n : Nat) : (s.copyFrames n).halt = s.halt := by induction n generalizing s with | zero => rfl | succ n ih => simp [State.copyFrames, ih]
@[simp] theorem State.copyFrames_trapLatch (s : State) (n : Nat) : (s.copyFrames n).trapLatch = s.trapLatch := by induction n generalizing s with | zero => rfl | succ n ih => simp [State.copyFrames, ih]
@[simp] theorem State.copyFrames_segOverride (s : State) (n : Nat) : (s.copyFrames n).segOverride = s.segOverride := by induction n generalizing s with | zero => rfl | succ n ih => simp [State.copyFrames, ih]
@[simp] theorem State.copyFrames_repMode (s : State) (n : Nat) : (s.copyFrames n).repMode = s.repMode := by induction n generalizing s with | zero => rfl | succ n ih => simp [State.copyFrames, ih]
@[simp] theorem State.copyFrames_firstIp (s : State) (n : Nat) : (s.copyFrames n).firstIp = s.firstIp := by induction n generalizing s with | zero => rfl | succ n ih => simp [State.copyFrames, ih]
@[simp] theorem State.copyFrames_ro (s : State) (n : Nat) : (s.copyFrames n).ro = s.ro := by induction n generalizing s with | zero => rfl | succ n ih => simp [State.copyFrames, ih]
@[simp] theorem State.copyFrames_pic (s : State) (n : Nat) : (s.copyFrames n).pic = s.pic := by induction n generalizing s with | zero => rfl | succ n ih => simp [State.copyFrames, ih]
@[simp] theorem State.copyFrames_pit (s : State) (n : Nat) : (s.copyFrames n).pit = s.pit := by induction n generalizing s with | zero => rfl | succ n ih => simp [State.copyFrames, ih]
@[simp] theorem State.copyFrames_dma (s : State) (n : Nat) : (s.copyFrames n).dma = s.dma := by induction n generalizing s with | zero => rfl | succ n ih => simp [State.copyFrames, ih]
@[simp] theorem State.copyFrames_ports (s : State) (n : Nat) : (s.copyFrames n).ports = s.ports := by induction n generalizing s with | zero => rfl | succ n ih => simp [State.copyFrames, ih]
@[simp] theorem State.copyFrames_sched (s : State) (n : Nat) : (s.copyFrames n).sched = s.sched := by induction n generalizing s with | zero => rfl | succ n ih => simp [State.copyFrames, ih]
@[simp] theorem State.copyFrames_instrCount (s : State) (n : Nat) : (s.copyFrames n).instrCount = s.instrCount := by induction n generalizing s with | zero => rfl | succ n ih => simp [State.copyFrames, ih]
@[simp] theorem State.copyFrames_running (s : State) (n : Nat) : (s.copyFrames n).running = s.running := by induction n generalizing s with | zero => rfl | succ n ih => simp [State.copyFrames, ih]
@[simp] theorem State.copyFrames_draws (s : State) (n : Nat) : (s.copyFrames n).draws = s.draws := by induction n generalizing s with | zero => rfl | succ n ih => simp [State.copyFrames, ih]
@[simp] theorem State.copyFrames_events (s : State) (n : Nat) : (s.copyFrames n).events = s.events := by induction n generalizing s with | zero => rfl | succ n ih => simp [State.copyFrames, ih]

end Sys2Proof.Machine
end

