-- ==== Sys2Proof/Laws/Memory.lean ====
section
/-! SUPPORT. What memory and the read-only map do: a read after a write, and that every operation keeps the canonical form. -/

namespace Sys2Proof.Machine

/-! ### The list of cells -/

/-- A write leaves every other address alone, on any list. -/
theorem Memory.read_write_ne (m : Memory) {a b : Nat} (v : Byte) (h : b ≠ a) :
    Memory.read (Memory.write m a v) b = Memory.read m b := by
  induction m with
  | nil => simp only [Memory.write]; split <;> simp [Memory.read, Ne.symm h]
  | cons c rest ih =>
    obtain ⟨k, w⟩ := c
    simp only [Memory.write]
    split
    · split <;> simp [Memory.read, Ne.symm h]
    · split
      · rename_i hk; subst hk
        split <;> simp [Memory.read, Ne.symm h]
      · simp [Memory.read, ih]

/-- Below the first address of a canonical list every byte is unlisted. -/
theorem Memory.read_below {m : Memory} {lo a : Nat} (hw : Memory.wfFrom lo m = true) (h : a < lo) :
    Memory.read m a = unlistedByte := by
  induction m generalizing lo with
  | nil => rfl
  | cons c rest ih =>
    obtain ⟨k, w⟩ := c
    simp only [Memory.wfFrom, Bool.and_eq_true, decide_eq_true_eq] at hw
    have hk : k ≠ a := by omega
    simp only [Memory.read, hk, if_false]
    exact ih hw.2 (by omega)

/-- The canonical form from a higher start is the canonical form from a lower one. -/
theorem Memory.wfFrom_mono {m : Memory} {lo lo' : Nat} (h : lo' ≤ lo) (hw : Memory.wfFrom lo m = true) :
    Memory.wfFrom lo' m = true := by
  cases m with
  | nil => rfl
  | cons c rest =>
    obtain ⟨k, w⟩ := c
    simp only [Memory.wfFrom, Bool.and_eq_true, decide_eq_true_eq] at hw ⊢
    exact ⟨⟨⟨by omega, hw.1.1.2⟩, hw.1.2⟩, hw.2⟩

/-- On a canonical list a read gives the byte written. -/
theorem Memory.read_write_self {m : Memory} {lo : Nat} (hw : Memory.wfFrom lo m = true) (a : Nat) (v : Byte) :
    Memory.read (Memory.write m a v) a = v := by
  induction m generalizing lo with
  | nil => simp only [Memory.write]; split <;> simp_all [Memory.read]
  | cons c rest ih =>
    obtain ⟨k, w⟩ := c
    have hr := hw
    simp only [Memory.wfFrom, Bool.and_eq_true, decide_eq_true_eq] at hr
    simp only [Memory.write]
    split
    · rename_i hk
      split
      · rename_i hv
        have : k ≠ a := by omega
        simp only [Memory.read, this, if_false]
        rw [hv]; exact Memory.read_below hr.2 (by omega)
      · simp [Memory.read]
    · split
      · rename_i hk; subst hk
        split
        · rename_i hv; rw [hv]; exact Memory.read_below hr.2 (by omega)
        · simp [Memory.read]
      · rename_i h1 h2
        have : k ≠ a := fun h => h2 h.symm
        simp only [Memory.read, this, if_false]
        exact ih hr.2

/-- A write below 2^20 keeps the canonical form. -/
theorem Memory.wfFrom_write {m : Memory} {lo a : Nat} (hw : Memory.wfFrom lo m = true) (hlo : lo ≤ a)
    (ha : a < Config.memSize) (v : Byte) : Memory.wfFrom lo (Memory.write m a v) = true := by
  induction m generalizing lo with
  | nil => simp only [Memory.write]; split <;> simp_all [Memory.wfFrom]
  | cons c rest ih =>
    obtain ⟨k, w⟩ := c
    have hr := hw
    simp only [Memory.wfFrom, Bool.and_eq_true, decide_eq_true_eq] at hr
    simp only [Memory.write]
    split
    · split
      · exact hw
      · simp only [Memory.wfFrom, Bool.and_eq_true, decide_eq_true_eq]
        exact ⟨⟨⟨hlo, ha⟩, ‹_›⟩, ⟨⟨by omega, hr.1.1.2⟩, hr.1.2⟩, hr.2⟩
    · split
      · rename_i hk; subst hk
        split
        · exact Memory.wfFrom_mono (by omega) hr.2
        · simp only [Memory.wfFrom, Bool.and_eq_true, decide_eq_true_eq]
          exact ⟨⟨⟨hlo, ha⟩, ‹_›⟩, hr.2⟩
      · simp only [Memory.wfFrom, Bool.and_eq_true, decide_eq_true_eq]
        exact ⟨hr.1, ih hr.2 (by omega)⟩

/-- A read after a write on a canonical memory. -/
theorem Memory.read_write {m : Memory} (hw : m.wf = true) (a b : Nat) (v : Byte) :
    Memory.read (Memory.write m a v) b = if b = a then v else Memory.read m b := by
  split
  · subst b; exact Memory.read_write_self hw a v
  · exact Memory.read_write_ne m v ‹_›

/-- A write keeps the canonical form. -/
theorem Memory.wf_write {m : Memory} (hw : m.wf = true) (a : Addr) (v : Byte) :
    Memory.wf (Memory.write m a.toNat v) = true :=
  Memory.wfFrom_write hw (Nat.zero_le _) a.isLt v

/-! ### The read-only map -/

theorem RoMap.has_add (r : RoMap) (a b : Nat) : (RoMap.add r a).has b = (decide (b = a) || RoMap.has r b) := by
  induction r with
  | nil => simp only [RoMap.add, RoMap.has]; by_cases h : b = a <;> simp [h]
  | cons k rest ih =>
    simp only [RoMap.has] at ih
    simp only [RoMap.add, RoMap.has]
    split
    · by_cases h : b = a <;> simp [h]
    · split
      · rename_i h; subst h; by_cases h : b = a <;> simp [h]
      · simp only [List.contains_cons, ih]
        by_cases h : b = a <;> simp [h]

theorem RoMap.wfFrom_add {r : RoMap} {lo a : Nat} (hw : RoMap.wfFrom lo r = true) (hlo : lo ≤ a)
    (ha : a < Config.memSize) : RoMap.wfFrom lo (RoMap.add r a) = true := by
  induction r generalizing lo with
  | nil => simp_all [RoMap.add, RoMap.wfFrom]
  | cons k rest ih =>
    have hr := hw
    simp only [RoMap.wfFrom, Bool.and_eq_true, decide_eq_true_eq] at hr
    simp only [RoMap.add]
    split
    · simp only [RoMap.wfFrom, Bool.and_eq_true, decide_eq_true_eq]
      exact ⟨⟨hlo, ha⟩, ⟨by omega, hr.1.2⟩, hr.2⟩
    · split
      · exact hw
      · simp only [RoMap.wfFrom, Bool.and_eq_true, decide_eq_true_eq]
        exact ⟨hr.1, ih hr.2 (by omega)⟩

/-- `loadImage`'s addition keeps the canonical form of the read-only map. -/
theorem RoMap.wf_add {r : RoMap} (hw : r.wf = true) (a : Addr) : (RoMap.add r a.toNat).wf = true :=
  RoMap.wfFrom_add hw (Nat.zero_le _) a.isLt

/-! ### Byte and word accesses -/

/-- A read after a byte write: the byte written, unless the address is read-only (R63, R64). -/
theorem State.readByte_writeByte {s : State} (hw : s.mem.wf = true) (a b : Addr) (v : Byte) :
    (s.writeByte a v).readByte b = if b = a ∧ s.ro.has a.toNat = false then v else s.readByte b := by
  have hc : ∀ x : State, x.readByte b = Memory.read x.mem b.toNat := fun _ => rfl
  cases hro : s.ro.has a.toNat with
  | true => simp [State.writeByte, hro]
  | false =>
    have hm : (s.writeByte a v).mem = s.mem.write a.toNat v := by
      simp only [State.writeByte, hro, Bool.false_eq_true, if_false]; split <;> rfl
    rw [hc, hm, Memory.read_write hw]
    by_cases h : b = a
    · simp [h]
    · have : b.toNat ≠ a.toNat := fun e => h (BitVec.eq_of_toNat_eq e)
      simp [h, this, State.readByte]

/-- A byte write leaves every other byte alone, in any state. -/
theorem State.readByte_writeByte_ne (s : State) {a b : Addr} (v : Byte) (h : b ≠ a) :
    (s.writeByte a v).readByte b = s.readByte b := by
  have hn : b.toNat ≠ a.toNat := fun e => h (BitVec.eq_of_toNat_eq e)
  simp only [State.writeByte]
  split
  · rfl
  · split <;> simp [State.readByte, State.emit, Memory.read_write_ne _ _ hn]

/-- A byte write keeps the canonical form. -/
theorem State.wf_writeByte {s : State} (hw : s.mem.wf = true) (a : Addr) (v : Byte) :
    (s.writeByte a v).mem.wf = true := by
  simp only [State.writeByte]
  split
  · exact hw
  · split <;> simpa [State.emit] using Memory.wf_write hw a v

/-- A word write keeps the canonical form. -/
theorem State.wf_writeWord {s : State} (hw : s.mem.wf = true) (a : Addr) (v : Word) :
    (s.writeWord a v).mem.wf = true := State.wf_writeByte (State.wf_writeByte hw _ _) _ _

/-- A word write leaves every byte but its two alone, in any state. -/
theorem State.readByte_writeWord_ne (s : State) {a b : Addr} (v : Word) (h0 : b ≠ a) (h1 : b ≠ a + 1) :
    (s.writeWord a v).readByte b = s.readByte b := by
  simp only [State.writeWord]
  rw [State.readByte_writeByte_ne _ _ h1, State.readByte_writeByte_ne _ _ h0]

end Sys2Proof.Machine
end

