-- ==== Sys2Proof/Laws/Registers.lean ====
section
/-! SUPPORT. What a register reads after each operation that writes registers. -/

namespace Sys2Proof.Machine

theorem Regs.get_set (g : Regs) (r q : Reg16) (v : Word) : (g.set r v).get q = if q = r then v else g.get q := by
  cases r <;> cases q <;> rfl

theorem SegRegs.get_set (g : SegRegs) (r q : SReg) (v : Word) : (g.set r v).get q = if q = r then v else g.get q := by
  cases r <;> cases q <;> rfl

/-- Equal registers make equal register files. -/
theorem Regs.ext_get {g h : Regs} (e : ∀ r, g.get r = h.get r) : g = h := by
  cases g; cases h
  simp only [Regs.mk.injEq]
  exact ⟨e .ax, e .cx, e .dx, e .bx, e .sp, e .bp, e .si, e .di⟩

theorem SegRegs.ext_get {g h : SegRegs} (e : ∀ r, g.get r = h.get r) : g = h := by
  cases g; cases h
  simp only [SegRegs.mk.injEq]
  exact ⟨e .es, e .cs, e .ss, e .ds⟩

/-- A register depends on the register file only. -/
theorem State.reg_congr {s t : State} (h : t.regs = s.regs) (r : Reg16) : t.reg r = s.reg r := by
  simp only [State.reg, h]

theorem State.seg_congr {s t : State} (h : t.segs = s.segs) (r : SReg) : t.seg r = s.seg r := by
  simp only [State.seg, h]

/-- A byte depends on memory only. -/
theorem State.readByte_congr {s t : State} (h : t.mem = s.mem) (a : Addr) : t.readByte a = s.readByte a := by
  simp only [State.readByte, h]

theorem State.reg_setReg (s : State) (r q : Reg16) (v : Word) :
    (s.setReg r v).reg q = if q = r then v else s.reg q := Regs.get_set s.regs r q v

theorem State.seg_setSeg (s : State) (r q : SReg) (v : Word) :
    (s.setSeg r v).seg q = if q = r then v else s.seg q := SegRegs.get_set s.segs r q v

theorem State.reg_setReg_ne (s : State) {r q : Reg16} (v : Word) (h : q ≠ r) : (s.setReg r v).reg q = s.reg q := by
  rw [State.reg_setReg, if_neg h]

theorem State.reg_setReg8_ne (s : State) {r : Reg8} {q : Reg16} (v : Byte) (h : q ≠ wordReg r) :
    (s.setReg8 r v).reg q = s.reg q := State.reg_setReg_ne s _ h

theorem State.seg_setSeg_ne (s : State) {r q : SReg} (v : Word) (h : q ≠ r) : (s.setSeg r v).seg q = s.seg q := by
  rw [State.seg_setSeg, if_neg h]

theorem State.reg_grown (s : State) (q : Reg16) : s.grown.reg q = if q = .sp then s.reg .sp - 2 else s.reg q :=
  State.reg_setReg s .sp q _

theorem State.reg_push16 (s : State) (v : Word) (q : Reg16) :
    (s.push16 v).reg q = if q = .sp then s.reg .sp - 2 else s.reg q := by
  rw [← State.reg_grown]; exact State.reg_congr (by simp [State.push16]) q

theorem State.seg_push16 (s : State) (v : Word) (q : SReg) : (s.push16 v).seg q = s.seg q :=
  State.seg_congr (by simp) q

theorem State.reg_popped (s : State) (q : Reg16) : s.popped.reg q = if q = .sp then s.reg .sp + 2 else s.reg q :=
  State.reg_setReg s .sp q _

theorem State.reg_intCall (s : State) (n : Byte) (q : Reg16) :
    (s.intCall n).reg q = if q = .sp then s.reg .sp - 6 else s.reg q := by
  have h : (s.intCall n).regs = (((s.push16 s.flags.word).push16 (s.seg .cs)).push16 s.ip).regs := by
    simp [State.intCall]
  rw [State.reg_congr h q]
  simp only [State.reg_push16, if_true]
  split
  · simp only [BitVec.sub_sub]; rfl
  · rfl

theorem State.seg_intCall_ne (s : State) (n : Byte) {q : SReg} (h : q ≠ .cs) : (s.intCall n).seg q = s.seg q := by
  simp only [State.intCall, State.loadVector]
  rw [State.seg_setSeg_ne _ _ h]
  exact State.seg_congr (by simp) q

end Sys2Proof.Machine
end

