-- ==== Sys2Proof/Laws/Frames.lean ====
section
/-! SUPPORT. What a write to an operand, a push and the entry of an interrupt leave unchanged, in the terms of the footprints, and
that they keep the canonical form of memory. -/

namespace Sys2Proof.Machine

/-! ### Operands -/

theorem State.reg_write8 (s : State) (l : Loc Reg8) (v : Byte) {q : Reg16} (h : q ∉ l.regs8) :
    (s.write8 l v).reg q = s.reg q := by
  cases l with
  | reg r => exact State.reg_setReg8_ne s v (by simpa [Loc.regs8] using h)
  | mem sg off => exact State.reg_congr (by simp [State.write8]) q

theorem State.reg_write16 (s : State) (l : Loc Reg16) (v : Word) {q : Reg16} (h : q ∉ l.regs16) :
    (s.write16 l v).reg q = s.reg q := by
  cases l with
  | reg r => exact State.reg_setReg_ne s v (by simpa [Loc.regs16] using h)
  | mem sg off => exact State.reg_congr (by simp [State.write16]) q

theorem State.readByte_write8 (s : State) (l : Loc Reg8) (v : Byte) {a : Addr} (h : a ∉ l.addrs8) :
    (s.write8 l v).readByte a = s.readByte a := by
  cases l with
  | reg r => rfl
  | mem sg off => exact State.readByte_writeByte_ne s v (by simpa [Loc.addrs8] using h)

theorem State.readByte_write16 (s : State) (l : Loc Reg16) (v : Word) {a : Addr} (h : a ∉ l.addrs16) :
    (s.write16 l v).readByte a = s.readByte a := by
  cases l with
  | reg r => rfl
  | mem sg off =>
    simp only [Loc.addrs16, wordAddrs, List.mem_cons, List.not_mem_nil, or_false, not_or] at h
    exact State.readByte_writeWord_ne s v h.1 h.2

theorem State.wf_write8 {s : State} (hw : s.mem.wf = true) (l : Loc Reg8) (v : Byte) :
    (s.write8 l v).mem.wf = true := by
  cases l with
  | reg r => exact hw
  | mem sg off => exact State.wf_writeByte hw _ _

theorem State.wf_write16 {s : State} (hw : s.mem.wf = true) (l : Loc Reg16) (v : Word) :
    (s.write16 l v).mem.wf = true := by
  cases l with
  | reg r => exact hw
  | mem sg off => exact State.wf_writeWord hw _ _

/-! ### The stack -/

theorem State.wf_push16 {s : State} (hw : s.mem.wf = true) (v : Word) : (s.push16 v).mem.wf = true :=
  State.wf_writeWord (s := s.grown) hw _ _

theorem State.wf_intCall {s : State} (hw : s.mem.wf = true) (n : Byte) : (s.intCall n).mem.wf = true := by
  have h : (s.intCall n).mem = (((s.push16 s.flags.word).push16 (s.seg .cs)).push16 s.ip).mem := by simp [State.intCall]
  rw [h]
  exact State.wf_push16 (State.wf_push16 (State.wf_push16 hw _) _) _

/-- The bytes of the first push and those of the pushes after it. -/
theorem State.mem_stackAddrs_succ (s : State) (v : Word) (k : Nat) (a : Addr) :
    a ∈ s.stackAddrs (k + 1) ↔ a ∈ s.stackAddrs 1 ∨ a ∈ (s.push16 v).stackAddrs k := by
  simp only [State.stackAddrs, List.mem_flatMap, List.mem_range, State.reg_push16, State.seg_push16, if_true]
  have e (j : Nat) : s.reg .sp - BitVec.ofNat 16 (2 * (j + 1 + 1)) = s.reg .sp - 2 - BitVec.ofNat 16 (2 * (j + 1)) := by
    rw [BitVec.sub_sub, show 2 * (j + 1 + 1) = 2 + 2 * (j + 1) by omega, BitVec.ofNat_add]; rfl
  constructor
  · rintro ⟨j, hj, h⟩
    cases j with
    | zero => exact .inl ⟨0, by omega, h⟩
    | succ j => exact .inr ⟨j, by omega, by rw [← e j]; exact h⟩
  · rintro (⟨j, hj, h⟩ | ⟨j, hj, h⟩)
    · exact ⟨j, by omega, h⟩
    · exact ⟨j + 1, by omega, by rw [e j]; exact h⟩

theorem State.readByte_push16 (s : State) (v : Word) {a : Addr} (h : a ∉ s.stackAddrs 1) :
    (s.push16 v).readByte a = s.readByte a := by
  simp only [State.stackAddrs, List.range_one, List.flatMap_cons, List.flatMap_nil, List.append_nil, wordAddrs,
    List.mem_cons, List.not_mem_nil, or_false, not_or] at h
  have e : s.grown.reg .sp = s.reg .sp - BitVec.ofNat 16 (2 * (0 + 1)) := State.reg_grown s .sp
  have g : s.grown.seg .ss = s.seg .ss := State.seg_congr (by simp) .ss
  show (s.grown.writeWord (phys (s.grown.seg .ss) (s.grown.reg .sp)) v).readByte a = _
  rw [e, g, State.readByte_writeWord_ne _ _ h.1 h.2]
  rfl

theorem State.readByte_push16_push16 (s : State) (v w : Word) {a : Addr} (h : a ∉ s.stackAddrs 2) :
    ((s.push16 v).push16 w).readByte a = s.readByte a := by
  rw [State.mem_stackAddrs_succ s v, not_or] at h
  rw [State.readByte_push16 _ _ h.2, State.readByte_push16 _ _ h.1]

theorem State.readByte_intCall (s : State) (n : Byte) {a : Addr} (h : a ∉ s.stackAddrs 3) :
    (s.intCall n).readByte a = s.readByte a := by
  have e : (s.intCall n).mem = (((s.push16 s.flags.word).push16 (s.seg .cs)).push16 s.ip).mem := by simp [State.intCall]
  rw [State.readByte_congr e]
  rw [State.mem_stackAddrs_succ s s.flags.word, not_or] at h
  rw [State.readByte_push16_push16 _ _ _ h.2, State.readByte_push16 _ _ h.1]

end Sys2Proof.Machine
end

