-- ==== Sys2Proof/Laws/PerInstr.lean ====
section
/-! SUPPORT. One property of every instruction as syntax: its encoding without prefixes is one to six bytes long
(spec/30_encoding.md R102). -/

namespace Sys2Proof

theorem length_wordBytes (v : Word) : (wordBytes v).length = 2 := rfl

/-- ModRM and displacement are one to three bytes (R107). -/
theorem length_encodeModrm (reg : BitVec 3) (rm : RM (BitVec 3)) :
    1 ≤ (encodeModrm reg rm).length ∧ (encodeModrm reg rm).length ≤ 3 := by
  cases rm with
  | reg n => simp [encodeModrm]
  | mem m =>
    cases m with
    | direct a => simp [encodeModrm, length_wordBytes]
    | based b d => cases d <;> simp [encodeModrm, length_wordBytes]

theorem length_encodeRm8 (reg : BitVec 3) (rm : RM8) : (encodeRm8 reg rm).length ≤ 3 := (length_encodeModrm _ _).2

theorem length_encodeRm16 (reg : BitVec 3) (rm : RM16) : (encodeRm16 reg rm).length ≤ 3 := (length_encodeModrm _ _).2

theorem length_encodeMem (reg : BitVec 3) (m : MemOp) : (encodeMem reg m).length ≤ 3 := (length_encodeModrm _ _).2

/-- A list of bytes is one to n long. -/
def lengthWithin (n : Nat) (l : List Byte) : Prop := 1 ≤ l.length ∧ l.length ≤ n

theorem lengthWithin_cons (n : Nat) (b : Byte) {l : List Byte} (h : l.length ≤ n) : lengthWithin (n + 1) (b :: l) := by
  simp only [lengthWithin, List.length_cons]; omega

theorem length_encodeRmForm (a b : Byte) (reg : BitVec 3) (x : RmForm) : lengthWithin 4 (encodeRmForm a b reg x) := by
  cases x with
  | b rm => exact lengthWithin_cons 3 _ (length_encodeRm8 _ _)
  | w rm => exact lengthWithin_cons 3 _ (length_encodeRm16 _ _)

theorem length_encodeRmReg (a b : Byte) (x : RmReg) : lengthWithin 4 (encodeRmReg a b x) := by
  cases x with
  | b rm r => exact lengthWithin_cons 3 _ (length_encodeRm8 _ _)
  | w rm r => exact lengthWithin_cons 3 _ (length_encodeRm16 _ _)

theorem length_encodeRmImm (a b : Byte) (reg : BitVec 3) (x : RmImm) : lengthWithin 6 (encodeRmImm a b reg x) := by
  cases x with
  | b rm i => exact lengthWithin_cons 5 _ (by have := length_encodeRm8 reg rm; simp; omega)
  | w rm i => exact lengthWithin_cons 5 _ (by have := length_encodeRm16 reg rm; simp [length_wordBytes]; omega)

theorem length_encodeAccImm (a b : Byte) (x : AccImm) : lengthWithin 3 (encodeAccImm a b x) := by
  cases x <;> simp [lengthWithin, encodeAccImm, length_wordBytes]

theorem lengthWithin_mono {m n : Nat} {l : List Byte} (h : lengthWithin m l) (hmn : m ≤ n) : lengthWithin n l :=
  ⟨h.1, Nat.le_trans h.2 hmn⟩

theorem within1 (a : Byte) : lengthWithin maxInstrBytes [a] := ⟨by simp, Nat.le_of_ble_eq_true rfl⟩
theorem within2 (a b : Byte) : lengthWithin maxInstrBytes [a, b] := ⟨by simp, Nat.le_of_ble_eq_true rfl⟩
theorem within3 (a b c : Byte) : lengthWithin maxInstrBytes [a, b, c] := ⟨by simp, Nat.le_of_ble_eq_true rfl⟩
theorem within4 (a b c d : Byte) : lengthWithin maxInstrBytes [a, b, c, d] := ⟨by simp, Nat.le_of_ble_eq_true rfl⟩
theorem within5 (a b c d e : Byte) : lengthWithin maxInstrBytes [a, b, c, d, e] :=
  ⟨by simp, Nat.le_of_ble_eq_true rfl⟩

theorem withinRmForm (a b : Byte) (reg : BitVec 3) (x : RmForm) : lengthWithin maxInstrBytes (encodeRmForm a b reg x) :=
  lengthWithin_mono (length_encodeRmForm a b reg x) (Nat.le_of_ble_eq_true rfl)

theorem withinRmReg (a b : Byte) (x : RmReg) : lengthWithin maxInstrBytes (encodeRmReg a b x) :=
  lengthWithin_mono (length_encodeRmReg a b x) (Nat.le_of_ble_eq_true rfl)

theorem withinAccImm (a b : Byte) (x : AccImm) : lengthWithin maxInstrBytes (encodeAccImm a b x) :=
  lengthWithin_mono (length_encodeAccImm a b x) (Nat.le_of_ble_eq_true rfl)

theorem withinRm16 (b : Byte) (reg : BitVec 3) (rm : RM16) : lengthWithin maxInstrBytes (b :: encodeRm16 reg rm) :=
  lengthWithin_mono (lengthWithin_cons 3 b (length_encodeRm16 reg rm)) (Nat.le_of_ble_eq_true rfl)

theorem withinMem (b : Byte) (reg : BitVec 3) (m : MemOp) : lengthWithin maxInstrBytes (b :: encodeMem reg m) :=
  lengthWithin_mono (lengthWithin_cons 3 b (length_encodeMem reg m)) (Nat.le_of_ble_eq_true rfl)

theorem length_encodeAlu (o : BitVec 3) (f : AluForm) : lengthWithin 6 (encodeAlu o f) := by
  cases f with
  | rmReg x => exact lengthWithin_mono (length_encodeRmReg _ _ x) (by omega)
  | regRm x => exact lengthWithin_mono (length_encodeRmReg _ _ x) (by omega)
  | accImm x => exact lengthWithin_mono (length_encodeAccImm _ _ x) (by omega)
  | rmImm x => exact length_encodeRmImm _ _ _ x
  | rmImm8s rm i => exact lengthWithin_cons 5 _ (by have := length_encodeRm16 o rm; simp; omega)

theorem length_encodeShift (reg : BitVec 3) (x : RmForm) (n : ShiftCount) : lengthWithin 6 (encodeShift reg x n) := by
  cases n with
  | one => exact lengthWithin_mono (length_encodeRmForm _ _ _ x) (by omega)
  | cl => exact lengthWithin_mono (length_encodeRmForm _ _ _ x) (by omega)
  | imm i =>
    have h := length_encodeRmForm 0xC0 0xC1 reg x
    simp only [encodeShift, lengthWithin, List.length_append, List.length_singleton] at h ⊢
    omega

end Sys2Proof

namespace Sys2Proof.Laws.EncodedLength

/-- The encoding of the instruction is one to six bytes long (R102). -/
def Statement (i : Instr) : Prop := lengthWithin maxInstrBytes (encode i)

theorem add (f : AluForm) : Statement (.add f) := length_encodeAlu _ f
theorem or (f : AluForm) : Statement (.or f) := length_encodeAlu _ f
theorem adc (f : AluForm) : Statement (.adc f) := length_encodeAlu _ f
theorem sbb (f : AluForm) : Statement (.sbb f) := length_encodeAlu _ f
theorem and (f : AluForm) : Statement (.and f) := length_encodeAlu _ f
theorem sub (f : AluForm) : Statement (.sub f) := length_encodeAlu _ f
theorem xor (f : AluForm) : Statement (.xor f) := length_encodeAlu _ f
theorem cmp (f : AluForm) : Statement (.cmp f) := length_encodeAlu _ f
theorem inc (f : IncForm) : Statement (.inc f) :=
  match f with
  | .r16 _ => within1 _
  | .rm x => withinRmForm _ _ _ x

theorem dec (f : IncForm) : Statement (.dec f) :=
  match f with
  | .r16 _ => within1 _
  | .rm x => withinRmForm _ _ _ x

theorem neg (x : RmForm) : Statement (.neg x) := withinRmForm _ _ _ x
theorem not (x : RmForm) : Statement (.not x) := withinRmForm _ _ _ x
theorem test (f : TestForm) : Statement (.test f) :=
  match f with
  | .rmReg x => withinRmReg _ _ x
  | .accImm x => withinAccImm _ _ x
  | .rmImm x => length_encodeRmImm _ _ _ x

theorem movRmReg (x : RmReg) : Statement (.movRmReg x) := withinRmReg _ _ x
theorem movRegRm (x : RmReg) : Statement (.movRegRm x) := withinRmReg _ _ x
theorem movRmImm (x : RmImm) : Statement (.movRmImm x) := length_encodeRmImm _ _ _ x
theorem movRegImm (x : RegImm) : Statement (.movRegImm x) :=
  match x with
  | .b _ _ => within2 _ _
  | .w _ _ => within3 _ _ _

theorem movAccMoffs (w : Width) (off : Word) : Statement (.movAccMoffs w off) := within3 _ _ _
theorem movMoffsAcc (w : Width) (off : Word) : Statement (.movMoffsAcc w off) := within3 _ _ _
theorem movSregRm (sr : SReg) (rm : RM16) : Statement (.movSregRm sr rm) := withinRm16 _ _ rm
theorem movRmSreg (rm : RM16) (sr : SReg) : Statement (.movRmSreg rm sr) := withinRm16 _ _ rm
theorem pushReg (r : Reg16) : Statement (.pushReg r) := within1 _
theorem pushSreg (sr : SReg) : Statement (.pushSreg sr) := within1 _
theorem pushRm (rm : RM16) : Statement (.pushRm rm) := withinRm16 _ _ rm
theorem popReg (r : Reg16) : Statement (.popReg r) := within1 _
theorem popSreg (sr : SReg) : Statement (.popSreg sr) := within1 _
theorem popRm (rm : RM16) : Statement (.popRm rm) := withinRm16 _ _ rm
theorem xchgRmReg (x : RmReg) : Statement (.xchgRmReg x) := withinRmReg _ _ x
theorem xchgAx (r : Reg16) : Statement (.xchgAx r) := within1 _
theorem nop : Statement .nop := within1 _
theorem lea (r : Reg16) (m : MemOp) : Statement (.lea r m) := withinMem _ _ m
theorem lds (r : Reg16) (m : MemOp) : Statement (.lds r m) := withinMem _ _ m
theorem les (r : Reg16) (m : MemOp) : Statement (.les r m) := withinMem _ _ m
theorem xlat : Statement .xlat := within1 _
theorem cbw : Statement .cbw := within1 _
theorem cwd : Statement .cwd := within1 _
theorem jo (rel : Byte) : Statement (.jo rel) := within2 _ _
theorem jno (rel : Byte) : Statement (.jno rel) := within2 _ _
theorem jb (rel : Byte) : Statement (.jb rel) := within2 _ _
theorem jnb (rel : Byte) : Statement (.jnb rel) := within2 _ _
theorem jz (rel : Byte) : Statement (.jz rel) := within2 _ _
theorem jnz (rel : Byte) : Statement (.jnz rel) := within2 _ _
theorem jbe (rel : Byte) : Statement (.jbe rel) := within2 _ _
theorem ja (rel : Byte) : Statement (.ja rel) := within2 _ _
theorem js (rel : Byte) : Statement (.js rel) := within2 _ _
theorem jns (rel : Byte) : Statement (.jns rel) := within2 _ _
theorem jp (rel : Byte) : Statement (.jp rel) := within2 _ _
theorem jnp (rel : Byte) : Statement (.jnp rel) := within2 _ _
theorem jl (rel : Byte) : Statement (.jl rel) := within2 _ _
theorem jge (rel : Byte) : Statement (.jge rel) := within2 _ _
theorem jle (rel : Byte) : Statement (.jle rel) := within2 _ _
theorem jg (rel : Byte) : Statement (.jg rel) := within2 _ _
theorem jmpShort (rel : Byte) : Statement (.jmpShort rel) := within2 _ _
theorem jmpNear (rel : Word) : Statement (.jmpNear rel) := within3 _ _ _
theorem jmpFar (off seg : Word) : Statement (.jmpFar off seg) := within5 _ _ _ _ _
theorem jmpRm (rm : RM16) : Statement (.jmpRm rm) := withinRm16 _ _ rm
theorem jmpMem (m : MemOp) : Statement (.jmpMem m) := withinMem _ _ m
theorem callNear (rel : Word) : Statement (.callNear rel) := within3 _ _ _
theorem callFar (off seg : Word) : Statement (.callFar off seg) := within5 _ _ _ _ _
theorem callRm (rm : RM16) : Statement (.callRm rm) := withinRm16 _ _ rm
theorem callMem (m : MemOp) : Statement (.callMem m) := withinMem _ _ m
theorem ret : Statement .ret := within1 _
theorem retImm (n : Word) : Statement (.retImm n) := within3 _ _ _
theorem retf : Statement .retf := within1 _
theorem retfImm (n : Word) : Statement (.retfImm n) := within3 _ _ _
theorem loop (rel : Byte) : Statement (.loop rel) := within2 _ _
theorem loopz (rel : Byte) : Statement (.loopz rel) := within2 _ _
theorem loopnz (rel : Byte) : Statement (.loopnz rel) := within2 _ _
theorem jcxz (rel : Byte) : Statement (.jcxz rel) := within2 _ _
theorem movsb : Statement .movsb := within1 _
theorem movsw : Statement .movsw := within1 _
theorem cmpsb : Statement .cmpsb := within1 _
theorem cmpsw : Statement .cmpsw := within1 _
theorem stosb : Statement .stosb := within1 _
theorem stosw : Statement .stosw := within1 _
theorem lodsb : Statement .lodsb := within1 _
theorem lodsw : Statement .lodsw := within1 _
theorem scasb : Statement .scasb := within1 _
theorem scasw : Statement .scasw := within1 _
theorem insb : Statement .insb := within1 _
theorem insw : Statement .insw := within1 _
theorem outsb : Statement .outsb := within1 _
theorem outsw : Statement .outsw := within1 _
theorem rol (x : RmForm) (n : ShiftCount) : Statement (.rol x n) := length_encodeShift _ x n
theorem ror (x : RmForm) (n : ShiftCount) : Statement (.ror x n) := length_encodeShift _ x n
theorem rcl (x : RmForm) (n : ShiftCount) : Statement (.rcl x n) := length_encodeShift _ x n
theorem rcr (x : RmForm) (n : ShiftCount) : Statement (.rcr x n) := length_encodeShift _ x n
theorem shl (x : RmForm) (n : ShiftCount) : Statement (.shl x n) := length_encodeShift _ x n
theorem shr (x : RmForm) (n : ShiftCount) : Statement (.shr x n) := length_encodeShift _ x n
theorem sar (x : RmForm) (n : ShiftCount) : Statement (.sar x n) := length_encodeShift _ x n
theorem mul (x : RmForm) : Statement (.mul x) := withinRmForm _ _ _ x
theorem imul (x : RmForm) : Statement (.imul x) := withinRmForm _ _ _ x
theorem imulImm16 (r : Reg16) (rm : RM16) (i : Word) : Statement (.imulImm16 r rm i) :=
  lengthWithin_cons 5 _ (by have := length_encodeRm16 r.toBits rm; simp [length_wordBytes]; omega)

theorem imulImm8 (r : Reg16) (rm : RM16) (i : Byte) : Statement (.imulImm8 r rm i) :=
  lengthWithin_cons 5 _ (by have := length_encodeRm16 r.toBits rm; simp [length_wordBytes]; omega)

theorem div (x : RmForm) : Statement (.div x) := withinRmForm _ _ _ x
theorem idiv (x : RmForm) : Statement (.idiv x) := withinRmForm _ _ _ x
theorem daa : Statement .daa := within1 _
theorem das : Statement .das := within1 _
theorem aaa : Statement .aaa := within1 _
theorem aas : Statement .aas := within1 _
theorem aam (base : Byte) : Statement (.aam base) := within2 _ _
theorem aad (base : Byte) : Statement (.aad base) := within2 _ _
theorem clc : Statement .clc := within1 _
theorem stc : Statement .stc := within1 _
theorem cmc : Statement .cmc := within1 _
theorem cld : Statement .cld := within1 _
theorem std : Statement .std := within1 _
theorem cli : Statement .cli := within1 _
theorem sti : Statement .sti := within1 _
theorem lahf : Statement .lahf := within1 _
theorem sahf : Statement .sahf := within1 _
theorem pushf : Statement .pushf := within1 _
theorem popf : Statement .popf := within1 _
theorem inImm (w : Width) (port : Byte) : Statement (.inImm w port) := within2 _ _
theorem inDx (w : Width) : Statement (.inDx w) := within1 _
theorem outImm (w : Width) (port : Byte) : Statement (.outImm w port) := within2 _ _
theorem outDx (w : Width) : Statement (.outDx w) := within1 _
theorem int3 : Statement .int3 := within1 _
theorem int (n : Byte) : Statement (.int n) := within2 _ _
theorem into : Statement .into := within1 _
theorem iret : Statement .iret := within1 _
theorem hlt : Statement .hlt := within1 _
theorem lock : Statement .lock := within1 _
theorem wait : Statement .wait := within1 _
theorem esc (sel reg : BitVec 3) (rm : RM16) : Statement (.esc sel reg rm) := withinRm16 _ _ rm
theorem illegalOp (op : Byte) : Statement (.illegalOp op) := within1 _
theorem illegalModrm (op : Byte) (reg : BitVec 3) (rm : RM16) : Statement (.illegalModrm op reg rm) := withinRm16 _ _ rm
theorem pusha : Statement .pusha := within1 _
theorem popa : Statement .popa := within1 _
theorem bound (r : Reg16) (m : MemOp) : Statement (.bound r m) := withinMem _ _ m
theorem pushImm16 (i : Word) : Statement (.pushImm16 i) := within3 _ _ _
theorem pushImm8 (i : Byte) : Statement (.pushImm8 i) := within2 _ _
theorem enter (size : Word) (level : Byte) : Statement (.enter size level) := within4 _ _ _ _
theorem leave : Statement .leave := within1 _
theorem segEs : Statement .segEs := within1 _
theorem segCs : Statement .segCs := within1 _
theorem segSs : Statement .segSs := within1 _
theorem segDs : Statement .segDs := within1 _
theorem repne : Statement .repne := within1 _
theorem rep : Statement .rep := within1 _

end Sys2Proof.Laws.EncodedLength
end

