-- ==== Sys2Proof/Laws/PortOps.lean ====
section
/-! SUPPORT. What port accesses and the iterations of string instructions leave unchanged: one lemma for each field. -/

namespace Sys2Proof.Machine

@[simp] theorem State.handlerIn_snd_regs (s : State) (h : Handler) : (s.handlerIn h).2.regs = s.regs := by cases h <;> rfl
@[simp] theorem State.handlerIn_snd_segs (s : State) (h : Handler) : (s.handlerIn h).2.segs = s.segs := by cases h <;> rfl
@[simp] theorem State.handlerIn_snd_ip (s : State) (h : Handler) : (s.handlerIn h).2.ip = s.ip := by cases h <;> rfl
@[simp] theorem State.handlerIn_snd_flags (s : State) (h : Handler) : (s.handlerIn h).2.flags = s.flags := by cases h <;> rfl
@[simp] theorem State.handlerIn_snd_halt (s : State) (h : Handler) : (s.handlerIn h).2.halt = s.halt := by cases h <;> rfl
@[simp] theorem State.handlerIn_snd_trapLatch (s : State) (h : Handler) : (s.handlerIn h).2.trapLatch = s.trapLatch := by cases h <;> rfl
@[simp] theorem State.handlerIn_snd_segOverride (s : State) (h : Handler) : (s.handlerIn h).2.segOverride = s.segOverride := by cases h <;> rfl
@[simp] theorem State.handlerIn_snd_repMode (s : State) (h : Handler) : (s.handlerIn h).2.repMode = s.repMode := by cases h <;> rfl
@[simp] theorem State.handlerIn_snd_firstIp (s : State) (h : Handler) : (s.handlerIn h).2.firstIp = s.firstIp := by cases h <;> rfl
@[simp] theorem State.handlerIn_snd_mem (s : State) (h : Handler) : (s.handlerIn h).2.mem = s.mem := by cases h <;> rfl
@[simp] theorem State.handlerIn_snd_ro (s : State) (h : Handler) : (s.handlerIn h).2.ro = s.ro := by cases h <;> rfl
@[simp] theorem State.handlerIn_snd_pic (s : State) (h : Handler) : (s.handlerIn h).2.pic = s.pic := by cases h <;> rfl
@[simp] theorem State.handlerIn_snd_dma (s : State) (h : Handler) : (s.handlerIn h).2.dma = s.dma := by cases h <;> rfl
@[simp] theorem State.handlerIn_snd_ports (s : State) (h : Handler) : (s.handlerIn h).2.ports = s.ports := by cases h <;> rfl
@[simp] theorem State.handlerIn_snd_sched (s : State) (h : Handler) : (s.handlerIn h).2.sched = s.sched := by cases h <;> rfl
@[simp] theorem State.handlerIn_snd_instrCount (s : State) (h : Handler) : (s.handlerIn h).2.instrCount = s.instrCount := by cases h <;> rfl
@[simp] theorem State.handlerIn_snd_running (s : State) (h : Handler) : (s.handlerIn h).2.running = s.running := by cases h <;> rfl
@[simp] theorem State.handlerIn_snd_events (s : State) (h : Handler) : (s.handlerIn h).2.events = s.events := by cases h <;> rfl
@[simp] theorem State.handlerIn_snd_outputs (s : State) (h : Handler) : (s.handlerIn h).2.outputs = s.outputs := by cases h <;> rfl

@[simp] theorem State.inByte_snd_regs (s : State) (p : Word) : (s.inByte p).2.regs = s.regs := by simp only [State.inByte]; split <;> simp
@[simp] theorem State.inByte_snd_segs (s : State) (p : Word) : (s.inByte p).2.segs = s.segs := by simp only [State.inByte]; split <;> simp
@[simp] theorem State.inByte_snd_ip (s : State) (p : Word) : (s.inByte p).2.ip = s.ip := by simp only [State.inByte]; split <;> simp
@[simp] theorem State.inByte_snd_flags (s : State) (p : Word) : (s.inByte p).2.flags = s.flags := by simp only [State.inByte]; split <;> simp
@[simp] theorem State.inByte_snd_halt (s : State) (p : Word) : (s.inByte p).2.halt = s.halt := by simp only [State.inByte]; split <;> simp
@[simp] theorem State.inByte_snd_trapLatch (s : State) (p : Word) : (s.inByte p).2.trapLatch = s.trapLatch := by simp only [State.inByte]; split <;> simp
@[simp] theorem State.inByte_snd_segOverride (s : State) (p : Word) : (s.inByte p).2.segOverride = s.segOverride := by simp only [State.inByte]; split <;> simp
@[simp] theorem State.inByte_snd_repMode (s : State) (p : Word) : (s.inByte p).2.repMode = s.repMode := by simp only [State.inByte]; split <;> simp
@[simp] theorem State.inByte_snd_firstIp (s : State) (p : Word) : (s.inByte p).2.firstIp = s.firstIp := by simp only [State.inByte]; split <;> simp
@[simp] theorem State.inByte_snd_mem (s : State) (p : Word) : (s.inByte p).2.mem = s.mem := by simp only [State.inByte]; split <;> simp
@[simp] theorem State.inByte_snd_ro (s : State) (p : Word) : (s.inByte p).2.ro = s.ro := by simp only [State.inByte]; split <;> simp
@[simp] theorem State.inByte_snd_pic (s : State) (p : Word) : (s.inByte p).2.pic = s.pic := by simp only [State.inByte]; split <;> simp
@[simp] theorem State.inByte_snd_dma (s : State) (p : Word) : (s.inByte p).2.dma = s.dma := by simp only [State.inByte]; split <;> simp
@[simp] theorem State.inByte_snd_ports (s : State) (p : Word) : (s.inByte p).2.ports = s.ports := by simp only [State.inByte]; split <;> simp
@[simp] theorem State.inByte_snd_sched (s : State) (p : Word) : (s.inByte p).2.sched = s.sched := by simp only [State.inByte]; split <;> simp
@[simp] theorem State.inByte_snd_instrCount (s : State) (p : Word) : (s.inByte p).2.instrCount = s.instrCount := by simp only [State.inByte]; split <;> simp
@[simp] theorem State.inByte_snd_running (s : State) (p : Word) : (s.inByte p).2.running = s.running := by simp only [State.inByte]; split <;> simp
@[simp] theorem State.inByte_snd_events (s : State) (p : Word) : (s.inByte p).2.events = s.events := by simp only [State.inByte]; split <;> simp
@[simp] theorem State.inByte_snd_outputs (s : State) (p : Word) : (s.inByte p).2.outputs = s.outputs := by simp only [State.inByte]; split <;> simp

@[simp] theorem State.inWord_snd_regs (s : State) (p : Word) : (s.inWord p).2.regs = s.regs := by simp [State.inWord]
@[simp] theorem State.inWord_snd_segs (s : State) (p : Word) : (s.inWord p).2.segs = s.segs := by simp [State.inWord]
@[simp] theorem State.inWord_snd_ip (s : State) (p : Word) : (s.inWord p).2.ip = s.ip := by simp [State.inWord]
@[simp] theorem State.inWord_snd_flags (s : State) (p : Word) : (s.inWord p).2.flags = s.flags := by simp [State.inWord]
@[simp] theorem State.inWord_snd_halt (s : State) (p : Word) : (s.inWord p).2.halt = s.halt := by simp [State.inWord]
@[simp] theorem State.inWord_snd_trapLatch (s : State) (p : Word) : (s.inWord p).2.trapLatch = s.trapLatch := by simp [State.inWord]
@[simp] theorem State.inWord_snd_segOverride (s : State) (p : Word) : (s.inWord p).2.segOverride = s.segOverride := by simp [State.inWord]
@[simp] theorem State.inWord_snd_repMode (s : State) (p : Word) : (s.inWord p).2.repMode = s.repMode := by simp [State.inWord]
@[simp] theorem State.inWord_snd_firstIp (s : State) (p : Word) : (s.inWord p).2.firstIp = s.firstIp := by simp [State.inWord]
@[simp] theorem State.inWord_snd_mem (s : State) (p : Word) : (s.inWord p).2.mem = s.mem := by simp [State.inWord]
@[simp] theorem State.inWord_snd_ro (s : State) (p : Word) : (s.inWord p).2.ro = s.ro := by simp [State.inWord]
@[simp] theorem State.inWord_snd_pic (s : State) (p : Word) : (s.inWord p).2.pic = s.pic := by simp [State.inWord]
@[simp] theorem State.inWord_snd_dma (s : State) (p : Word) : (s.inWord p).2.dma = s.dma := by simp [State.inWord]
@[simp] theorem State.inWord_snd_ports (s : State) (p : Word) : (s.inWord p).2.ports = s.ports := by simp [State.inWord]
@[simp] theorem State.inWord_snd_sched (s : State) (p : Word) : (s.inWord p).2.sched = s.sched := by simp [State.inWord]
@[simp] theorem State.inWord_snd_instrCount (s : State) (p : Word) : (s.inWord p).2.instrCount = s.instrCount := by simp [State.inWord]
@[simp] theorem State.inWord_snd_running (s : State) (p : Word) : (s.inWord p).2.running = s.running := by simp [State.inWord]
@[simp] theorem State.inWord_snd_events (s : State) (p : Word) : (s.inWord p).2.events = s.events := by simp [State.inWord]
@[simp] theorem State.inWord_snd_outputs (s : State) (p : Word) : (s.inWord p).2.outputs = s.outputs := by simp [State.inWord]

@[simp] theorem State.handlerOut_regs (s : State) (p : Word) (v : Byte) (h : Handler) : (s.handlerOut p v h).regs = s.regs := by cases h <;> rfl
@[simp] theorem State.handlerOut_segs (s : State) (p : Word) (v : Byte) (h : Handler) : (s.handlerOut p v h).segs = s.segs := by cases h <;> rfl
@[simp] theorem State.handlerOut_ip (s : State) (p : Word) (v : Byte) (h : Handler) : (s.handlerOut p v h).ip = s.ip := by cases h <;> rfl
@[simp] theorem State.handlerOut_flags (s : State) (p : Word) (v : Byte) (h : Handler) : (s.handlerOut p v h).flags = s.flags := by cases h <;> rfl
@[simp] theorem State.handlerOut_halt (s : State) (p : Word) (v : Byte) (h : Handler) : (s.handlerOut p v h).halt = s.halt := by cases h <;> rfl
@[simp] theorem State.handlerOut_trapLatch (s : State) (p : Word) (v : Byte) (h : Handler) : (s.handlerOut p v h).trapLatch = s.trapLatch := by cases h <;> rfl
@[simp] theorem State.handlerOut_segOverride (s : State) (p : Word) (v : Byte) (h : Handler) : (s.handlerOut p v h).segOverride = s.segOverride := by cases h <;> rfl
@[simp] theorem State.handlerOut_repMode (s : State) (p : Word) (v : Byte) (h : Handler) : (s.handlerOut p v h).repMode = s.repMode := by cases h <;> rfl
@[simp] theorem State.handlerOut_firstIp (s : State) (p : Word) (v : Byte) (h : Handler) : (s.handlerOut p v h).firstIp = s.firstIp := by cases h <;> rfl
@[simp] theorem State.handlerOut_mem (s : State) (p : Word) (v : Byte) (h : Handler) : (s.handlerOut p v h).mem = s.mem := by cases h <;> rfl
@[simp] theorem State.handlerOut_ro (s : State) (p : Word) (v : Byte) (h : Handler) : (s.handlerOut p v h).ro = s.ro := by cases h <;> rfl
@[simp] theorem State.handlerOut_ports (s : State) (p : Word) (v : Byte) (h : Handler) : (s.handlerOut p v h).ports = s.ports := by cases h <;> rfl
@[simp] theorem State.handlerOut_sched (s : State) (p : Word) (v : Byte) (h : Handler) : (s.handlerOut p v h).sched = s.sched := by cases h <;> rfl
@[simp] theorem State.handlerOut_instrCount (s : State) (p : Word) (v : Byte) (h : Handler) : (s.handlerOut p v h).instrCount = s.instrCount := by cases h <;> rfl
@[simp] theorem State.handlerOut_running (s : State) (p : Word) (v : Byte) (h : Handler) : (s.handlerOut p v h).running = s.running := by cases h <;> rfl
@[simp] theorem State.handlerOut_draws (s : State) (p : Word) (v : Byte) (h : Handler) : (s.handlerOut p v h).draws = s.draws := by cases h <;> rfl
@[simp] theorem State.handlerOut_events (s : State) (p : Word) (v : Byte) (h : Handler) : (s.handlerOut p v h).events = s.events := by cases h <;> rfl

@[simp] theorem State.outByte_regs (s : State) (p : Word) (v : Byte) : (s.outByte p v).regs = s.regs := by simp only [State.outByte]; split <;> simp
@[simp] theorem State.outByte_segs (s : State) (p : Word) (v : Byte) : (s.outByte p v).segs = s.segs := by simp only [State.outByte]; split <;> simp
@[simp] theorem State.outByte_ip (s : State) (p : Word) (v : Byte) : (s.outByte p v).ip = s.ip := by simp only [State.outByte]; split <;> simp
@[simp] theorem State.outByte_flags (s : State) (p : Word) (v : Byte) : (s.outByte p v).flags = s.flags := by simp only [State.outByte]; split <;> simp
@[simp] theorem State.outByte_halt (s : State) (p : Word) (v : Byte) : (s.outByte p v).halt = s.halt := by simp only [State.outByte]; split <;> simp
@[simp] theorem State.outByte_trapLatch (s : State) (p : Word) (v : Byte) : (s.outByte p v).trapLatch = s.trapLatch := by simp only [State.outByte]; split <;> simp
@[simp] theorem State.outByte_segOverride (s : State) (p : Word) (v : Byte) : (s.outByte p v).segOverride = s.segOverride := by simp only [State.outByte]; split <;> simp
@[simp] theorem State.outByte_repMode (s : State) (p : Word) (v : Byte) : (s.outByte p v).repMode = s.repMode := by simp only [State.outByte]; split <;> simp
@[simp] theorem State.outByte_firstIp (s : State) (p : Word) (v : Byte) : (s.outByte p v).firstIp = s.firstIp := by simp only [State.outByte]; split <;> simp
@[simp] theorem State.outByte_mem (s : State) (p : Word) (v : Byte) : (s.outByte p v).mem = s.mem := by simp only [State.outByte]; split <;> simp
@[simp] theorem State.outByte_ro (s : State) (p : Word) (v : Byte) : (s.outByte p v).ro = s.ro := by simp only [State.outByte]; split <;> simp
@[simp] theorem State.outByte_ports (s : State) (p : Word) (v : Byte) : (s.outByte p v).ports = s.ports := by simp only [State.outByte]; split <;> simp
@[simp] theorem State.outByte_sched (s : State) (p : Word) (v : Byte) : (s.outByte p v).sched = s.sched := by simp only [State.outByte]; split <;> simp
@[simp] theorem State.outByte_instrCount (s : State) (p : Word) (v : Byte) : (s.outByte p v).instrCount = s.instrCount := by simp only [State.outByte]; split <;> simp
@[simp] theorem State.outByte_running (s : State) (p : Word) (v : Byte) : (s.outByte p v).running = s.running := by simp only [State.outByte]; split <;> simp
@[simp] theorem State.outByte_draws (s : State) (p : Word) (v : Byte) : (s.outByte p v).draws = s.draws := by simp only [State.outByte]; split <;> simp
@[simp] theorem State.outByte_events (s : State) (p : Word) (v : Byte) : (s.outByte p v).events = s.events := by simp only [State.outByte]; split <;> simp

@[simp] theorem State.outWord_regs (s : State) (p v : Word) : (s.outWord p v).regs = s.regs := by simp [State.outWord]
@[simp] theorem State.outWord_segs (s : State) (p v : Word) : (s.outWord p v).segs = s.segs := by simp [State.outWord]
@[simp] theorem State.outWord_ip (s : State) (p v : Word) : (s.outWord p v).ip = s.ip := by simp [State.outWord]
@[simp] theorem State.outWord_flags (s : State) (p v : Word) : (s.outWord p v).flags = s.flags := by simp [State.outWord]
@[simp] theorem State.outWord_halt (s : State) (p v : Word) : (s.outWord p v).halt = s.halt := by simp [State.outWord]
@[simp] theorem State.outWord_trapLatch (s : State) (p v : Word) : (s.outWord p v).trapLatch = s.trapLatch := by simp [State.outWord]
@[simp] theorem State.outWord_segOverride (s : State) (p v : Word) : (s.outWord p v).segOverride = s.segOverride := by simp [State.outWord]
@[simp] theorem State.outWord_repMode (s : State) (p v : Word) : (s.outWord p v).repMode = s.repMode := by simp [State.outWord]
@[simp] theorem State.outWord_firstIp (s : State) (p v : Word) : (s.outWord p v).firstIp = s.firstIp := by simp [State.outWord]
@[simp] theorem State.outWord_mem (s : State) (p v : Word) : (s.outWord p v).mem = s.mem := by simp [State.outWord]
@[simp] theorem State.outWord_ro (s : State) (p v : Word) : (s.outWord p v).ro = s.ro := by simp [State.outWord]
@[simp] theorem State.outWord_ports (s : State) (p v : Word) : (s.outWord p v).ports = s.ports := by simp [State.outWord]
@[simp] theorem State.outWord_sched (s : State) (p v : Word) : (s.outWord p v).sched = s.sched := by simp [State.outWord]
@[simp] theorem State.outWord_instrCount (s : State) (p v : Word) : (s.outWord p v).instrCount = s.instrCount := by simp [State.outWord]
@[simp] theorem State.outWord_running (s : State) (p v : Word) : (s.outWord p v).running = s.running := by simp [State.outWord]
@[simp] theorem State.outWord_draws (s : State) (p v : Word) : (s.outWord p v).draws = s.draws := by simp [State.outWord]
@[simp] theorem State.outWord_events (s : State) (p v : Word) : (s.outWord p v).events = s.events := by simp [State.outWord]

@[simp] theorem State.portIn_segs (s : State) (w : Width) (p : Word) : (s.portIn w p).segs = s.segs := by cases w <;> simp [State.portIn]
@[simp] theorem State.portIn_ip (s : State) (w : Width) (p : Word) : (s.portIn w p).ip = s.ip := by cases w <;> simp [State.portIn]
@[simp] theorem State.portIn_flags (s : State) (w : Width) (p : Word) : (s.portIn w p).flags = s.flags := by cases w <;> simp [State.portIn]
@[simp] theorem State.portIn_halt (s : State) (w : Width) (p : Word) : (s.portIn w p).halt = s.halt := by cases w <;> simp [State.portIn]
@[simp] theorem State.portIn_trapLatch (s : State) (w : Width) (p : Word) : (s.portIn w p).trapLatch = s.trapLatch := by cases w <;> simp [State.portIn]
@[simp] theorem State.portIn_segOverride (s : State) (w : Width) (p : Word) : (s.portIn w p).segOverride = s.segOverride := by cases w <;> simp [State.portIn]
@[simp] theorem State.portIn_repMode (s : State) (w : Width) (p : Word) : (s.portIn w p).repMode = s.repMode := by cases w <;> simp [State.portIn]
@[simp] theorem State.portIn_firstIp (s : State) (w : Width) (p : Word) : (s.portIn w p).firstIp = s.firstIp := by cases w <;> simp [State.portIn]
@[simp] theorem State.portIn_mem (s : State) (w : Width) (p : Word) : (s.portIn w p).mem = s.mem := by cases w <;> simp [State.portIn]
@[simp] theorem State.portIn_ro (s : State) (w : Width) (p : Word) : (s.portIn w p).ro = s.ro := by cases w <;> simp [State.portIn]
@[simp] theorem State.portIn_pic (s : State) (w : Width) (p : Word) : (s.portIn w p).pic = s.pic := by cases w <;> simp [State.portIn]
@[simp] theorem State.portIn_dma (s : State) (w : Width) (p : Word) : (s.portIn w p).dma = s.dma := by cases w <;> simp [State.portIn]
@[simp] theorem State.portIn_ports (s : State) (w : Width) (p : Word) : (s.portIn w p).ports = s.ports := by cases w <;> simp [State.portIn]
@[simp] theorem State.portIn_sched (s : State) (w : Width) (p : Word) : (s.portIn w p).sched = s.sched := by cases w <;> simp [State.portIn]
@[simp] theorem State.portIn_instrCount (s : State) (w : Width) (p : Word) : (s.portIn w p).instrCount = s.instrCount := by cases w <;> simp [State.portIn]
@[simp] theorem State.portIn_running (s : State) (w : Width) (p : Word) : (s.portIn w p).running = s.running := by cases w <;> simp [State.portIn]
@[simp] theorem State.portIn_events (s : State) (w : Width) (p : Word) : (s.portIn w p).events = s.events := by cases w <;> simp [State.portIn]
@[simp] theorem State.portIn_outputs (s : State) (w : Width) (p : Word) : (s.portIn w p).outputs = s.outputs := by cases w <;> simp [State.portIn]

@[simp] theorem State.portOut_regs (s : State) (w : Width) (p : Word) : (s.portOut w p).regs = s.regs := by cases w <;> simp [State.portOut]
@[simp] theorem State.portOut_segs (s : State) (w : Width) (p : Word) : (s.portOut w p).segs = s.segs := by cases w <;> simp [State.portOut]
@[simp] theorem State.portOut_ip (s : State) (w : Width) (p : Word) : (s.portOut w p).ip = s.ip := by cases w <;> simp [State.portOut]
@[simp] theorem State.portOut_flags (s : State) (w : Width) (p : Word) : (s.portOut w p).flags = s.flags := by cases w <;> simp [State.portOut]
@[simp] theorem State.portOut_halt (s : State) (w : Width) (p : Word) : (s.portOut w p).halt = s.halt := by cases w <;> simp [State.portOut]
@[simp] theorem State.portOut_trapLatch (s : State) (w : Width) (p : Word) : (s.portOut w p).trapLatch = s.trapLatch := by cases w <;> simp [State.portOut]
@[simp] theorem State.portOut_segOverride (s : State) (w : Width) (p : Word) : (s.portOut w p).segOverride = s.segOverride := by cases w <;> simp [State.portOut]
@[simp] theorem State.portOut_repMode (s : State) (w : Width) (p : Word) : (s.portOut w p).repMode = s.repMode := by cases w <;> simp [State.portOut]
@[simp] theorem State.portOut_firstIp (s : State) (w : Width) (p : Word) : (s.portOut w p).firstIp = s.firstIp := by cases w <;> simp [State.portOut]
@[simp] theorem State.portOut_mem (s : State) (w : Width) (p : Word) : (s.portOut w p).mem = s.mem := by cases w <;> simp [State.portOut]
@[simp] theorem State.portOut_ro (s : State) (w : Width) (p : Word) : (s.portOut w p).ro = s.ro := by cases w <;> simp [State.portOut]
@[simp] theorem State.portOut_ports (s : State) (w : Width) (p : Word) : (s.portOut w p).ports = s.ports := by cases w <;> simp [State.portOut]
@[simp] theorem State.portOut_sched (s : State) (w : Width) (p : Word) : (s.portOut w p).sched = s.sched := by cases w <;> simp [State.portOut]
@[simp] theorem State.portOut_instrCount (s : State) (w : Width) (p : Word) : (s.portOut w p).instrCount = s.instrCount := by cases w <;> simp [State.portOut]
@[simp] theorem State.portOut_running (s : State) (w : Width) (p : Word) : (s.portOut w p).running = s.running := by cases w <;> simp [State.portOut]
@[simp] theorem State.portOut_draws (s : State) (w : Width) (p : Word) : (s.portOut w p).draws = s.draws := by cases w <;> simp [State.portOut]
@[simp] theorem State.portOut_events (s : State) (w : Width) (p : Word) : (s.portOut w p).events = s.events := by cases w <;> simp [State.portOut]

@[simp] theorem State.stepSi_segs (s : State) (n : Word) : (s.stepSi n).segs = s.segs := rfl
@[simp] theorem State.stepSi_ip (s : State) (n : Word) : (s.stepSi n).ip = s.ip := rfl
@[simp] theorem State.stepSi_flags (s : State) (n : Word) : (s.stepSi n).flags = s.flags := rfl
@[simp] theorem State.stepSi_halt (s : State) (n : Word) : (s.stepSi n).halt = s.halt := rfl
@[simp] theorem State.stepSi_trapLatch (s : State) (n : Word) : (s.stepSi n).trapLatch = s.trapLatch := rfl
@[simp] theorem State.stepSi_segOverride (s : State) (n : Word) : (s.stepSi n).segOverride = s.segOverride := rfl
@[simp] theorem State.stepSi_repMode (s : State) (n : Word) : (s.stepSi n).repMode = s.repMode := rfl
@[simp] theorem State.stepSi_firstIp (s : State) (n : Word) : (s.stepSi n).firstIp = s.firstIp := rfl
@[simp] theorem State.stepSi_mem (s : State) (n : Word) : (s.stepSi n).mem = s.mem := rfl
@[simp] theorem State.stepSi_ro (s : State) (n : Word) : (s.stepSi n).ro = s.ro := rfl
@[simp] theorem State.stepSi_pic (s : State) (n : Word) : (s.stepSi n).pic = s.pic := rfl
@[simp] theorem State.stepSi_pit (s : State) (n : Word) : (s.stepSi n).pit = s.pit := rfl
@[simp] theorem State.stepSi_dma (s : State) (n : Word) : (s.stepSi n).dma = s.dma := rfl
@[simp] theorem State.stepSi_ports (s : State) (n : Word) : (s.stepSi n).ports = s.ports := rfl
@[simp] theorem State.stepSi_sched (s : State) (n : Word) : (s.stepSi n).sched = s.sched := rfl
@[simp] theorem State.stepSi_instrCount (s : State) (n : Word) : (s.stepSi n).instrCount = s.instrCount := rfl
@[simp] theorem State.stepSi_running (s : State) (n : Word) : (s.stepSi n).running = s.running := rfl
@[simp] theorem State.stepSi_draws (s : State) (n : Word) : (s.stepSi n).draws = s.draws := rfl
@[simp] theorem State.stepSi_events (s : State) (n : Word) : (s.stepSi n).events = s.events := rfl
@[simp] theorem State.stepSi_outputs (s : State) (n : Word) : (s.stepSi n).outputs = s.outputs := rfl

@[simp] theorem State.stepDi_segs (s : State) (n : Word) : (s.stepDi n).segs = s.segs := rfl
@[simp] theorem State.stepDi_ip (s : State) (n : Word) : (s.stepDi n).ip = s.ip := rfl
@[simp] theorem State.stepDi_flags (s : State) (n : Word) : (s.stepDi n).flags = s.flags := rfl
@[simp] theorem State.stepDi_halt (s : State) (n : Word) : (s.stepDi n).halt = s.halt := rfl
@[simp] theorem State.stepDi_trapLatch (s : State) (n : Word) : (s.stepDi n).trapLatch = s.trapLatch := rfl
@[simp] theorem State.stepDi_segOverride (s : State) (n : Word) : (s.stepDi n).segOverride = s.segOverride := rfl
@[simp] theorem State.stepDi_repMode (s : State) (n : Word) : (s.stepDi n).repMode = s.repMode := rfl
@[simp] theorem State.stepDi_firstIp (s : State) (n : Word) : (s.stepDi n).firstIp = s.firstIp := rfl
@[simp] theorem State.stepDi_mem (s : State) (n : Word) : (s.stepDi n).mem = s.mem := rfl
@[simp] theorem State.stepDi_ro (s : State) (n : Word) : (s.stepDi n).ro = s.ro := rfl
@[simp] theorem State.stepDi_pic (s : State) (n : Word) : (s.stepDi n).pic = s.pic := rfl
@[simp] theorem State.stepDi_pit (s : State) (n : Word) : (s.stepDi n).pit = s.pit := rfl
@[simp] theorem State.stepDi_dma (s : State) (n : Word) : (s.stepDi n).dma = s.dma := rfl
@[simp] theorem State.stepDi_ports (s : State) (n : Word) : (s.stepDi n).ports = s.ports := rfl
@[simp] theorem State.stepDi_sched (s : State) (n : Word) : (s.stepDi n).sched = s.sched := rfl
@[simp] theorem State.stepDi_instrCount (s : State) (n : Word) : (s.stepDi n).instrCount = s.instrCount := rfl
@[simp] theorem State.stepDi_running (s : State) (n : Word) : (s.stepDi n).running = s.running := rfl
@[simp] theorem State.stepDi_draws (s : State) (n : Word) : (s.stepDi n).draws = s.draws := rfl
@[simp] theorem State.stepDi_events (s : State) (n : Word) : (s.stepDi n).events = s.events := rfl
@[simp] theorem State.stepDi_outputs (s : State) (n : Word) : (s.stepDi n).outputs = s.outputs := rfl

@[simp] theorem State.writeDest8_regs (s : State) (v : Byte) : (s.writeDest8 v).regs = s.regs := by simp [State.writeDest8]
@[simp] theorem State.writeDest8_segs (s : State) (v : Byte) : (s.writeDest8 v).segs = s.segs := by simp [State.writeDest8]
@[simp] theorem State.writeDest8_ip (s : State) (v : Byte) : (s.writeDest8 v).ip = s.ip := by simp [State.writeDest8]
@[simp] theorem State.writeDest8_flags (s : State) (v : Byte) : (s.writeDest8 v).flags = s.flags := by simp [State.writeDest8]
@[simp] theorem State.writeDest8_halt (s : State) (v : Byte) : (s.writeDest8 v).halt = s.halt := by simp [State.writeDest8]
@[simp] theorem State.writeDest8_trapLatch (s : State) (v : Byte) : (s.writeDest8 v).trapLatch = s.trapLatch := by simp [State.writeDest8]
@[simp] theorem State.writeDest8_segOverride (s : State) (v : Byte) : (s.writeDest8 v).segOverride = s.segOverride := by simp [State.writeDest8]
@[simp] theorem State.writeDest8_repMode (s : State) (v : Byte) : (s.writeDest8 v).repMode = s.repMode := by simp [State.writeDest8]
@[simp] theorem State.writeDest8_firstIp (s : State) (v : Byte) : (s.writeDest8 v).firstIp = s.firstIp := by simp [State.writeDest8]
@[simp] theorem State.writeDest8_ro (s : State) (v : Byte) : (s.writeDest8 v).ro = s.ro := by simp [State.writeDest8]
@[simp] theorem State.writeDest8_pic (s : State) (v : Byte) : (s.writeDest8 v).pic = s.pic := by simp [State.writeDest8]
@[simp] theorem State.writeDest8_pit (s : State) (v : Byte) : (s.writeDest8 v).pit = s.pit := by simp [State.writeDest8]
@[simp] theorem State.writeDest8_dma (s : State) (v : Byte) : (s.writeDest8 v).dma = s.dma := by simp [State.writeDest8]
@[simp] theorem State.writeDest8_ports (s : State) (v : Byte) : (s.writeDest8 v).ports = s.ports := by simp [State.writeDest8]
@[simp] theorem State.writeDest8_sched (s : State) (v : Byte) : (s.writeDest8 v).sched = s.sched := by simp [State.writeDest8]
@[simp] theorem State.writeDest8_instrCount (s : State) (v : Byte) : (s.writeDest8 v).instrCount = s.instrCount := by simp [State.writeDest8]
@[simp] theorem State.writeDest8_running (s : State) (v : Byte) : (s.writeDest8 v).running = s.running := by simp [State.writeDest8]
@[simp] theorem State.writeDest8_draws (s : State) (v : Byte) : (s.writeDest8 v).draws = s.draws := by simp [State.writeDest8]
@[simp] theorem State.writeDest8_events (s : State) (v : Byte) : (s.writeDest8 v).events = s.events := by simp [State.writeDest8]

@[simp] theorem State.writeDest16_regs (s : State) (v : Word) : (s.writeDest16 v).regs = s.regs := by simp [State.writeDest16]
@[simp] theorem State.writeDest16_segs (s : State) (v : Word) : (s.writeDest16 v).segs = s.segs := by simp [State.writeDest16]
@[simp] theorem State.writeDest16_ip (s : State) (v : Word) : (s.writeDest16 v).ip = s.ip := by simp [State.writeDest16]
@[simp] theorem State.writeDest16_flags (s : State) (v : Word) : (s.writeDest16 v).flags = s.flags := by simp [State.writeDest16]
@[simp] theorem State.writeDest16_halt (s : State) (v : Word) : (s.writeDest16 v).halt = s.halt := by simp [State.writeDest16]
@[simp] theorem State.writeDest16_trapLatch (s : State) (v : Word) : (s.writeDest16 v).trapLatch = s.trapLatch := by simp [State.writeDest16]
@[simp] theorem State.writeDest16_segOverride (s : State) (v : Word) : (s.writeDest16 v).segOverride = s.segOverride := by simp [State.writeDest16]
@[simp] theorem State.writeDest16_repMode (s : State) (v : Word) : (s.writeDest16 v).repMode = s.repMode := by simp [State.writeDest16]
@[simp] theorem State.writeDest16_firstIp (s : State) (v : Word) : (s.writeDest16 v).firstIp = s.firstIp := by simp [State.writeDest16]
@[simp] theorem State.writeDest16_ro (s : State) (v : Word) : (s.writeDest16 v).ro = s.ro := by simp [State.writeDest16]
@[simp] theorem State.writeDest16_pic (s : State) (v : Word) : (s.writeDest16 v).pic = s.pic := by simp [State.writeDest16]
@[simp] theorem State.writeDest16_pit (s : State) (v : Word) : (s.writeDest16 v).pit = s.pit := by simp [State.writeDest16]
@[simp] theorem State.writeDest16_dma (s : State) (v : Word) : (s.writeDest16 v).dma = s.dma := by simp [State.writeDest16]
@[simp] theorem State.writeDest16_ports (s : State) (v : Word) : (s.writeDest16 v).ports = s.ports := by simp [State.writeDest16]
@[simp] theorem State.writeDest16_sched (s : State) (v : Word) : (s.writeDest16 v).sched = s.sched := by simp [State.writeDest16]
@[simp] theorem State.writeDest16_instrCount (s : State) (v : Word) : (s.writeDest16 v).instrCount = s.instrCount := by simp [State.writeDest16]
@[simp] theorem State.writeDest16_running (s : State) (v : Word) : (s.writeDest16 v).running = s.running := by simp [State.writeDest16]
@[simp] theorem State.writeDest16_draws (s : State) (v : Word) : (s.writeDest16 v).draws = s.draws := by simp [State.writeDest16]
@[simp] theorem State.writeDest16_events (s : State) (v : Word) : (s.writeDest16 v).events = s.events := by simp [State.writeDest16]

@[simp] theorem State.movsb_segs (s : State) : s.movsb.segs = s.segs := by simp [State.movsb]
@[simp] theorem State.movsb_ip (s : State) : s.movsb.ip = s.ip := by simp [State.movsb]
@[simp] theorem State.movsb_flags (s : State) : s.movsb.flags = s.flags := by simp [State.movsb]
@[simp] theorem State.movsb_halt (s : State) : s.movsb.halt = s.halt := by simp [State.movsb]
@[simp] theorem State.movsb_trapLatch (s : State) : s.movsb.trapLatch = s.trapLatch := by simp [State.movsb]
@[simp] theorem State.movsb_segOverride (s : State) : s.movsb.segOverride = s.segOverride := by simp [State.movsb]
@[simp] theorem State.movsb_repMode (s : State) : s.movsb.repMode = s.repMode := by simp [State.movsb]
@[simp] theorem State.movsb_firstIp (s : State) : s.movsb.firstIp = s.firstIp := by simp [State.movsb]
@[simp] theorem State.movsb_ro (s : State) : s.movsb.ro = s.ro := by simp [State.movsb]
@[simp] theorem State.movsb_pic (s : State) : s.movsb.pic = s.pic := by simp [State.movsb]
@[simp] theorem State.movsb_pit (s : State) : s.movsb.pit = s.pit := by simp [State.movsb]
@[simp] theorem State.movsb_dma (s : State) : s.movsb.dma = s.dma := by simp [State.movsb]
@[simp] theorem State.movsb_ports (s : State) : s.movsb.ports = s.ports := by simp [State.movsb]
@[simp] theorem State.movsb_sched (s : State) : s.movsb.sched = s.sched := by simp [State.movsb]
@[simp] theorem State.movsb_instrCount (s : State) : s.movsb.instrCount = s.instrCount := by simp [State.movsb]
@[simp] theorem State.movsb_running (s : State) : s.movsb.running = s.running := by simp [State.movsb]
@[simp] theorem State.movsb_draws (s : State) : s.movsb.draws = s.draws := by simp [State.movsb]
@[simp] theorem State.movsb_events (s : State) : s.movsb.events = s.events := by simp [State.movsb]

@[simp] theorem State.movsw_segs (s : State) : s.movsw.segs = s.segs := by simp [State.movsw]
@[simp] theorem State.movsw_ip (s : State) : s.movsw.ip = s.ip := by simp [State.movsw]
@[simp] theorem State.movsw_flags (s : State) : s.movsw.flags = s.flags := by simp [State.movsw]
@[simp] theorem State.movsw_halt (s : State) : s.movsw.halt = s.halt := by simp [State.movsw]
@[simp] theorem State.movsw_trapLatch (s : State) : s.movsw.trapLatch = s.trapLatch := by simp [State.movsw]
@[simp] theorem State.movsw_segOverride (s : State) : s.movsw.segOverride = s.segOverride := by simp [State.movsw]
@[simp] theorem State.movsw_repMode (s : State) : s.movsw.repMode = s.repMode := by simp [State.movsw]
@[simp] theorem State.movsw_firstIp (s : State) : s.movsw.firstIp = s.firstIp := by simp [State.movsw]
@[simp] theorem State.movsw_ro (s : State) : s.movsw.ro = s.ro := by simp [State.movsw]
@[simp] theorem State.movsw_pic (s : State) : s.movsw.pic = s.pic := by simp [State.movsw]
@[simp] theorem State.movsw_pit (s : State) : s.movsw.pit = s.pit := by simp [State.movsw]
@[simp] theorem State.movsw_dma (s : State) : s.movsw.dma = s.dma := by simp [State.movsw]
@[simp] theorem State.movsw_ports (s : State) : s.movsw.ports = s.ports := by simp [State.movsw]
@[simp] theorem State.movsw_sched (s : State) : s.movsw.sched = s.sched := by simp [State.movsw]
@[simp] theorem State.movsw_instrCount (s : State) : s.movsw.instrCount = s.instrCount := by simp [State.movsw]
@[simp] theorem State.movsw_running (s : State) : s.movsw.running = s.running := by simp [State.movsw]
@[simp] theorem State.movsw_draws (s : State) : s.movsw.draws = s.draws := by simp [State.movsw]
@[simp] theorem State.movsw_events (s : State) : s.movsw.events = s.events := by simp [State.movsw]

@[simp] theorem State.cmpsb_segs (s : State) : s.cmpsb.segs = s.segs := by simp [State.cmpsb]
@[simp] theorem State.cmpsb_ip (s : State) : s.cmpsb.ip = s.ip := by simp [State.cmpsb]
@[simp] theorem State.cmpsb_halt (s : State) : s.cmpsb.halt = s.halt := by simp [State.cmpsb]
@[simp] theorem State.cmpsb_trapLatch (s : State) : s.cmpsb.trapLatch = s.trapLatch := by simp [State.cmpsb]
@[simp] theorem State.cmpsb_segOverride (s : State) : s.cmpsb.segOverride = s.segOverride := by simp [State.cmpsb]
@[simp] theorem State.cmpsb_repMode (s : State) : s.cmpsb.repMode = s.repMode := by simp [State.cmpsb]
@[simp] theorem State.cmpsb_firstIp (s : State) : s.cmpsb.firstIp = s.firstIp := by simp [State.cmpsb]
@[simp] theorem State.cmpsb_mem (s : State) : s.cmpsb.mem = s.mem := by simp [State.cmpsb]
@[simp] theorem State.cmpsb_ro (s : State) : s.cmpsb.ro = s.ro := by simp [State.cmpsb]
@[simp] theorem State.cmpsb_pic (s : State) : s.cmpsb.pic = s.pic := by simp [State.cmpsb]
@[simp] theorem State.cmpsb_pit (s : State) : s.cmpsb.pit = s.pit := by simp [State.cmpsb]
@[simp] theorem State.cmpsb_dma (s : State) : s.cmpsb.dma = s.dma := by simp [State.cmpsb]
@[simp] theorem State.cmpsb_ports (s : State) : s.cmpsb.ports = s.ports := by simp [State.cmpsb]
@[simp] theorem State.cmpsb_sched (s : State) : s.cmpsb.sched = s.sched := by simp [State.cmpsb]
@[simp] theorem State.cmpsb_instrCount (s : State) : s.cmpsb.instrCount = s.instrCount := by simp [State.cmpsb]
@[simp] theorem State.cmpsb_running (s : State) : s.cmpsb.running = s.running := by simp [State.cmpsb]
@[simp] theorem State.cmpsb_draws (s : State) : s.cmpsb.draws = s.draws := by simp [State.cmpsb]
@[simp] theorem State.cmpsb_events (s : State) : s.cmpsb.events = s.events := by simp [State.cmpsb]
@[simp] theorem State.cmpsb_outputs (s : State) : s.cmpsb.outputs = s.outputs := by simp [State.cmpsb]

@[simp] theorem State.cmpsw_segs (s : State) : s.cmpsw.segs = s.segs := by simp [State.cmpsw]
@[simp] theorem State.cmpsw_ip (s : State) : s.cmpsw.ip = s.ip := by simp [State.cmpsw]
@[simp] theorem State.cmpsw_halt (s : State) : s.cmpsw.halt = s.halt := by simp [State.cmpsw]
@[simp] theorem State.cmpsw_trapLatch (s : State) : s.cmpsw.trapLatch = s.trapLatch := by simp [State.cmpsw]
@[simp] theorem State.cmpsw_segOverride (s : State) : s.cmpsw.segOverride = s.segOverride := by simp [State.cmpsw]
@[simp] theorem State.cmpsw_repMode (s : State) : s.cmpsw.repMode = s.repMode := by simp [State.cmpsw]
@[simp] theorem State.cmpsw_firstIp (s : State) : s.cmpsw.firstIp = s.firstIp := by simp [State.cmpsw]
@[simp] theorem State.cmpsw_mem (s : State) : s.cmpsw.mem = s.mem := by simp [State.cmpsw]
@[simp] theorem State.cmpsw_ro (s : State) : s.cmpsw.ro = s.ro := by simp [State.cmpsw]
@[simp] theorem State.cmpsw_pic (s : State) : s.cmpsw.pic = s.pic := by simp [State.cmpsw]
@[simp] theorem State.cmpsw_pit (s : State) : s.cmpsw.pit = s.pit := by simp [State.cmpsw]
@[simp] theorem State.cmpsw_dma (s : State) : s.cmpsw.dma = s.dma := by simp [State.cmpsw]
@[simp] theorem State.cmpsw_ports (s : State) : s.cmpsw.ports = s.ports := by simp [State.cmpsw]
@[simp] theorem State.cmpsw_sched (s : State) : s.cmpsw.sched = s.sched := by simp [State.cmpsw]
@[simp] theorem State.cmpsw_instrCount (s : State) : s.cmpsw.instrCount = s.instrCount := by simp [State.cmpsw]
@[simp] theorem State.cmpsw_running (s : State) : s.cmpsw.running = s.running := by simp [State.cmpsw]
@[simp] theorem State.cmpsw_draws (s : State) : s.cmpsw.draws = s.draws := by simp [State.cmpsw]
@[simp] theorem State.cmpsw_events (s : State) : s.cmpsw.events = s.events := by simp [State.cmpsw]
@[simp] theorem State.cmpsw_outputs (s : State) : s.cmpsw.outputs = s.outputs := by simp [State.cmpsw]

@[simp] theorem State.stosb_segs (s : State) : s.stosb.segs = s.segs := by simp [State.stosb]
@[simp] theorem State.stosb_ip (s : State) : s.stosb.ip = s.ip := by simp [State.stosb]
@[simp] theorem State.stosb_flags (s : State) : s.stosb.flags = s.flags := by simp [State.stosb]
@[simp] theorem State.stosb_halt (s : State) : s.stosb.halt = s.halt := by simp [State.stosb]
@[simp] theorem State.stosb_trapLatch (s : State) : s.stosb.trapLatch = s.trapLatch := by simp [State.stosb]
@[simp] theorem State.stosb_segOverride (s : State) : s.stosb.segOverride = s.segOverride := by simp [State.stosb]
@[simp] theorem State.stosb_repMode (s : State) : s.stosb.repMode = s.repMode := by simp [State.stosb]
@[simp] theorem State.stosb_firstIp (s : State) : s.stosb.firstIp = s.firstIp := by simp [State.stosb]
@[simp] theorem State.stosb_ro (s : State) : s.stosb.ro = s.ro := by simp [State.stosb]
@[simp] theorem State.stosb_pic (s : State) : s.stosb.pic = s.pic := by simp [State.stosb]
@[simp] theorem State.stosb_pit (s : State) : s.stosb.pit = s.pit := by simp [State.stosb]
@[simp] theorem State.stosb_dma (s : State) : s.stosb.dma = s.dma := by simp [State.stosb]
@[simp] theorem State.stosb_ports (s : State) : s.stosb.ports = s.ports := by simp [State.stosb]
@[simp] theorem State.stosb_sched (s : State) : s.stosb.sched = s.sched := by simp [State.stosb]
@[simp] theorem State.stosb_instrCount (s : State) : s.stosb.instrCount = s.instrCount := by simp [State.stosb]
@[simp] theorem State.stosb_running (s : State) : s.stosb.running = s.running := by simp [State.stosb]
@[simp] theorem State.stosb_draws (s : State) : s.stosb.draws = s.draws := by simp [State.stosb]
@[simp] theorem State.stosb_events (s : State) : s.stosb.events = s.events := by simp [State.stosb]

@[simp] theorem State.stosw_segs (s : State) : s.stosw.segs = s.segs := by simp [State.stosw]
@[simp] theorem State.stosw_ip (s : State) : s.stosw.ip = s.ip := by simp [State.stosw]
@[simp] theorem State.stosw_flags (s : State) : s.stosw.flags = s.flags := by simp [State.stosw]
@[simp] theorem State.stosw_halt (s : State) : s.stosw.halt = s.halt := by simp [State.stosw]
@[simp] theorem State.stosw_trapLatch (s : State) : s.stosw.trapLatch = s.trapLatch := by simp [State.stosw]
@[simp] theorem State.stosw_segOverride (s : State) : s.stosw.segOverride = s.segOverride := by simp [State.stosw]
@[simp] theorem State.stosw_repMode (s : State) : s.stosw.repMode = s.repMode := by simp [State.stosw]
@[simp] theorem State.stosw_firstIp (s : State) : s.stosw.firstIp = s.firstIp := by simp [State.stosw]
@[simp] theorem State.stosw_ro (s : State) : s.stosw.ro = s.ro := by simp [State.stosw]
@[simp] theorem State.stosw_pic (s : State) : s.stosw.pic = s.pic := by simp [State.stosw]
@[simp] theorem State.stosw_pit (s : State) : s.stosw.pit = s.pit := by simp [State.stosw]
@[simp] theorem State.stosw_dma (s : State) : s.stosw.dma = s.dma := by simp [State.stosw]
@[simp] theorem State.stosw_ports (s : State) : s.stosw.ports = s.ports := by simp [State.stosw]
@[simp] theorem State.stosw_sched (s : State) : s.stosw.sched = s.sched := by simp [State.stosw]
@[simp] theorem State.stosw_instrCount (s : State) : s.stosw.instrCount = s.instrCount := by simp [State.stosw]
@[simp] theorem State.stosw_running (s : State) : s.stosw.running = s.running := by simp [State.stosw]
@[simp] theorem State.stosw_draws (s : State) : s.stosw.draws = s.draws := by simp [State.stosw]
@[simp] theorem State.stosw_events (s : State) : s.stosw.events = s.events := by simp [State.stosw]

@[simp] theorem State.lodsb_segs (s : State) : s.lodsb.segs = s.segs := by simp [State.lodsb]
@[simp] theorem State.lodsb_ip (s : State) : s.lodsb.ip = s.ip := by simp [State.lodsb]
@[simp] theorem State.lodsb_flags (s : State) : s.lodsb.flags = s.flags := by simp [State.lodsb]
@[simp] theorem State.lodsb_halt (s : State) : s.lodsb.halt = s.halt := by simp [State.lodsb]
@[simp] theorem State.lodsb_trapLatch (s : State) : s.lodsb.trapLatch = s.trapLatch := by simp [State.lodsb]
@[simp] theorem State.lodsb_segOverride (s : State) : s.lodsb.segOverride = s.segOverride := by simp [State.lodsb]
@[simp] theorem State.lodsb_repMode (s : State) : s.lodsb.repMode = s.repMode := by simp [State.lodsb]
@[simp] theorem State.lodsb_firstIp (s : State) : s.lodsb.firstIp = s.firstIp := by simp [State.lodsb]
@[simp] theorem State.lodsb_mem (s : State) : s.lodsb.mem = s.mem := by simp [State.lodsb]
@[simp] theorem State.lodsb_ro (s : State) : s.lodsb.ro = s.ro := by simp [State.lodsb]
@[simp] theorem State.lodsb_pic (s : State) : s.lodsb.pic = s.pic := by simp [State.lodsb]
@[simp] theorem State.lodsb_pit (s : State) : s.lodsb.pit = s.pit := by simp [State.lodsb]
@[simp] theorem State.lodsb_dma (s : State) : s.lodsb.dma = s.dma := by simp [State.lodsb]
@[simp] theorem State.lodsb_ports (s : State) : s.lodsb.ports = s.ports := by simp [State.lodsb]
@[simp] theorem State.lodsb_sched (s : State) : s.lodsb.sched = s.sched := by simp [State.lodsb]
@[simp] theorem State.lodsb_instrCount (s : State) : s.lodsb.instrCount = s.instrCount := by simp [State.lodsb]
@[simp] theorem State.lodsb_running (s : State) : s.lodsb.running = s.running := by simp [State.lodsb]
@[simp] theorem State.lodsb_draws (s : State) : s.lodsb.draws = s.draws := by simp [State.lodsb]
@[simp] theorem State.lodsb_events (s : State) : s.lodsb.events = s.events := by simp [State.lodsb]
@[simp] theorem State.lodsb_outputs (s : State) : s.lodsb.outputs = s.outputs := by simp [State.lodsb]

@[simp] theorem State.lodsw_segs (s : State) : s.lodsw.segs = s.segs := by simp [State.lodsw]
@[simp] theorem State.lodsw_ip (s : State) : s.lodsw.ip = s.ip := by simp [State.lodsw]
@[simp] theorem State.lodsw_flags (s : State) : s.lodsw.flags = s.flags := by simp [State.lodsw]
@[simp] theorem State.lodsw_halt (s : State) : s.lodsw.halt = s.halt := by simp [State.lodsw]
@[simp] theorem State.lodsw_trapLatch (s : State) : s.lodsw.trapLatch = s.trapLatch := by simp [State.lodsw]
@[simp] theorem State.lodsw_segOverride (s : State) : s.lodsw.segOverride = s.segOverride := by simp [State.lodsw]
@[simp] theorem State.lodsw_repMode (s : State) : s.lodsw.repMode = s.repMode := by simp [State.lodsw]
@[simp] theorem State.lodsw_firstIp (s : State) : s.lodsw.firstIp = s.firstIp := by simp [State.lodsw]
@[simp] theorem State.lodsw_mem (s : State) : s.lodsw.mem = s.mem := by simp [State.lodsw]
@[simp] theorem State.lodsw_ro (s : State) : s.lodsw.ro = s.ro := by simp [State.lodsw]
@[simp] theorem State.lodsw_pic (s : State) : s.lodsw.pic = s.pic := by simp [State.lodsw]
@[simp] theorem State.lodsw_pit (s : State) : s.lodsw.pit = s.pit := by simp [State.lodsw]
@[simp] theorem State.lodsw_dma (s : State) : s.lodsw.dma = s.dma := by simp [State.lodsw]
@[simp] theorem State.lodsw_ports (s : State) : s.lodsw.ports = s.ports := by simp [State.lodsw]
@[simp] theorem State.lodsw_sched (s : State) : s.lodsw.sched = s.sched := by simp [State.lodsw]
@[simp] theorem State.lodsw_instrCount (s : State) : s.lodsw.instrCount = s.instrCount := by simp [State.lodsw]
@[simp] theorem State.lodsw_running (s : State) : s.lodsw.running = s.running := by simp [State.lodsw]
@[simp] theorem State.lodsw_draws (s : State) : s.lodsw.draws = s.draws := by simp [State.lodsw]
@[simp] theorem State.lodsw_events (s : State) : s.lodsw.events = s.events := by simp [State.lodsw]
@[simp] theorem State.lodsw_outputs (s : State) : s.lodsw.outputs = s.outputs := by simp [State.lodsw]

@[simp] theorem State.scasb_segs (s : State) : s.scasb.segs = s.segs := by simp [State.scasb]
@[simp] theorem State.scasb_ip (s : State) : s.scasb.ip = s.ip := by simp [State.scasb]
@[simp] theorem State.scasb_halt (s : State) : s.scasb.halt = s.halt := by simp [State.scasb]
@[simp] theorem State.scasb_trapLatch (s : State) : s.scasb.trapLatch = s.trapLatch := by simp [State.scasb]
@[simp] theorem State.scasb_segOverride (s : State) : s.scasb.segOverride = s.segOverride := by simp [State.scasb]
@[simp] theorem State.scasb_repMode (s : State) : s.scasb.repMode = s.repMode := by simp [State.scasb]
@[simp] theorem State.scasb_firstIp (s : State) : s.scasb.firstIp = s.firstIp := by simp [State.scasb]
@[simp] theorem State.scasb_mem (s : State) : s.scasb.mem = s.mem := by simp [State.scasb]
@[simp] theorem State.scasb_ro (s : State) : s.scasb.ro = s.ro := by simp [State.scasb]
@[simp] theorem State.scasb_pic (s : State) : s.scasb.pic = s.pic := by simp [State.scasb]
@[simp] theorem State.scasb_pit (s : State) : s.scasb.pit = s.pit := by simp [State.scasb]
@[simp] theorem State.scasb_dma (s : State) : s.scasb.dma = s.dma := by simp [State.scasb]
@[simp] theorem State.scasb_ports (s : State) : s.scasb.ports = s.ports := by simp [State.scasb]
@[simp] theorem State.scasb_sched (s : State) : s.scasb.sched = s.sched := by simp [State.scasb]
@[simp] theorem State.scasb_instrCount (s : State) : s.scasb.instrCount = s.instrCount := by simp [State.scasb]
@[simp] theorem State.scasb_running (s : State) : s.scasb.running = s.running := by simp [State.scasb]
@[simp] theorem State.scasb_draws (s : State) : s.scasb.draws = s.draws := by simp [State.scasb]
@[simp] theorem State.scasb_events (s : State) : s.scasb.events = s.events := by simp [State.scasb]
@[simp] theorem State.scasb_outputs (s : State) : s.scasb.outputs = s.outputs := by simp [State.scasb]

@[simp] theorem State.scasw_segs (s : State) : s.scasw.segs = s.segs := by simp [State.scasw]
@[simp] theorem State.scasw_ip (s : State) : s.scasw.ip = s.ip := by simp [State.scasw]
@[simp] theorem State.scasw_halt (s : State) : s.scasw.halt = s.halt := by simp [State.scasw]
@[simp] theorem State.scasw_trapLatch (s : State) : s.scasw.trapLatch = s.trapLatch := by simp [State.scasw]
@[simp] theorem State.scasw_segOverride (s : State) : s.scasw.segOverride = s.segOverride := by simp [State.scasw]
@[simp] theorem State.scasw_repMode (s : State) : s.scasw.repMode = s.repMode := by simp [State.scasw]
@[simp] theorem State.scasw_firstIp (s : State) : s.scasw.firstIp = s.firstIp := by simp [State.scasw]
@[simp] theorem State.scasw_mem (s : State) : s.scasw.mem = s.mem := by simp [State.scasw]
@[simp] theorem State.scasw_ro (s : State) : s.scasw.ro = s.ro := by simp [State.scasw]
@[simp] theorem State.scasw_pic (s : State) : s.scasw.pic = s.pic := by simp [State.scasw]
@[simp] theorem State.scasw_pit (s : State) : s.scasw.pit = s.pit := by simp [State.scasw]
@[simp] theorem State.scasw_dma (s : State) : s.scasw.dma = s.dma := by simp [State.scasw]
@[simp] theorem State.scasw_ports (s : State) : s.scasw.ports = s.ports := by simp [State.scasw]
@[simp] theorem State.scasw_sched (s : State) : s.scasw.sched = s.sched := by simp [State.scasw]
@[simp] theorem State.scasw_instrCount (s : State) : s.scasw.instrCount = s.instrCount := by simp [State.scasw]
@[simp] theorem State.scasw_running (s : State) : s.scasw.running = s.running := by simp [State.scasw]
@[simp] theorem State.scasw_draws (s : State) : s.scasw.draws = s.draws := by simp [State.scasw]
@[simp] theorem State.scasw_events (s : State) : s.scasw.events = s.events := by simp [State.scasw]
@[simp] theorem State.scasw_outputs (s : State) : s.scasw.outputs = s.outputs := by simp [State.scasw]

@[simp] theorem State.insb_segs (s : State) : s.insb.segs = s.segs := by simp [State.insb]
@[simp] theorem State.insb_ip (s : State) : s.insb.ip = s.ip := by simp [State.insb]
@[simp] theorem State.insb_flags (s : State) : s.insb.flags = s.flags := by simp [State.insb]
@[simp] theorem State.insb_halt (s : State) : s.insb.halt = s.halt := by simp [State.insb]
@[simp] theorem State.insb_trapLatch (s : State) : s.insb.trapLatch = s.trapLatch := by simp [State.insb]
@[simp] theorem State.insb_segOverride (s : State) : s.insb.segOverride = s.segOverride := by simp [State.insb]
@[simp] theorem State.insb_repMode (s : State) : s.insb.repMode = s.repMode := by simp [State.insb]
@[simp] theorem State.insb_firstIp (s : State) : s.insb.firstIp = s.firstIp := by simp [State.insb]
@[simp] theorem State.insb_ro (s : State) : s.insb.ro = s.ro := by simp [State.insb]
@[simp] theorem State.insb_pic (s : State) : s.insb.pic = s.pic := by simp [State.insb]
@[simp] theorem State.insb_dma (s : State) : s.insb.dma = s.dma := by simp [State.insb]
@[simp] theorem State.insb_ports (s : State) : s.insb.ports = s.ports := by simp [State.insb]
@[simp] theorem State.insb_sched (s : State) : s.insb.sched = s.sched := by simp [State.insb]
@[simp] theorem State.insb_instrCount (s : State) : s.insb.instrCount = s.instrCount := by simp [State.insb]
@[simp] theorem State.insb_running (s : State) : s.insb.running = s.running := by simp [State.insb]
@[simp] theorem State.insb_events (s : State) : s.insb.events = s.events := by simp [State.insb]

@[simp] theorem State.insw_segs (s : State) : s.insw.segs = s.segs := by simp [State.insw]
@[simp] theorem State.insw_ip (s : State) : s.insw.ip = s.ip := by simp [State.insw]
@[simp] theorem State.insw_flags (s : State) : s.insw.flags = s.flags := by simp [State.insw]
@[simp] theorem State.insw_halt (s : State) : s.insw.halt = s.halt := by simp [State.insw]
@[simp] theorem State.insw_trapLatch (s : State) : s.insw.trapLatch = s.trapLatch := by simp [State.insw]
@[simp] theorem State.insw_segOverride (s : State) : s.insw.segOverride = s.segOverride := by simp [State.insw]
@[simp] theorem State.insw_repMode (s : State) : s.insw.repMode = s.repMode := by simp [State.insw]
@[simp] theorem State.insw_firstIp (s : State) : s.insw.firstIp = s.firstIp := by simp [State.insw]
@[simp] theorem State.insw_ro (s : State) : s.insw.ro = s.ro := by simp [State.insw]
@[simp] theorem State.insw_pic (s : State) : s.insw.pic = s.pic := by simp [State.insw]
@[simp] theorem State.insw_dma (s : State) : s.insw.dma = s.dma := by simp [State.insw]
@[simp] theorem State.insw_ports (s : State) : s.insw.ports = s.ports := by simp [State.insw]
@[simp] theorem State.insw_sched (s : State) : s.insw.sched = s.sched := by simp [State.insw]
@[simp] theorem State.insw_instrCount (s : State) : s.insw.instrCount = s.instrCount := by simp [State.insw]
@[simp] theorem State.insw_running (s : State) : s.insw.running = s.running := by simp [State.insw]
@[simp] theorem State.insw_events (s : State) : s.insw.events = s.events := by simp [State.insw]

@[simp] theorem State.outsb_segs (s : State) : s.outsb.segs = s.segs := by simp [State.outsb]
@[simp] theorem State.outsb_ip (s : State) : s.outsb.ip = s.ip := by simp [State.outsb]
@[simp] theorem State.outsb_flags (s : State) : s.outsb.flags = s.flags := by simp [State.outsb]
@[simp] theorem State.outsb_halt (s : State) : s.outsb.halt = s.halt := by simp [State.outsb]
@[simp] theorem State.outsb_trapLatch (s : State) : s.outsb.trapLatch = s.trapLatch := by simp [State.outsb]
@[simp] theorem State.outsb_segOverride (s : State) : s.outsb.segOverride = s.segOverride := by simp [State.outsb]
@[simp] theorem State.outsb_repMode (s : State) : s.outsb.repMode = s.repMode := by simp [State.outsb]
@[simp] theorem State.outsb_firstIp (s : State) : s.outsb.firstIp = s.firstIp := by simp [State.outsb]
@[simp] theorem State.outsb_mem (s : State) : s.outsb.mem = s.mem := by simp [State.outsb]
@[simp] theorem State.outsb_ro (s : State) : s.outsb.ro = s.ro := by simp [State.outsb]
@[simp] theorem State.outsb_ports (s : State) : s.outsb.ports = s.ports := by simp [State.outsb]
@[simp] theorem State.outsb_sched (s : State) : s.outsb.sched = s.sched := by simp [State.outsb]
@[simp] theorem State.outsb_instrCount (s : State) : s.outsb.instrCount = s.instrCount := by simp [State.outsb]
@[simp] theorem State.outsb_running (s : State) : s.outsb.running = s.running := by simp [State.outsb]
@[simp] theorem State.outsb_draws (s : State) : s.outsb.draws = s.draws := by simp [State.outsb]
@[simp] theorem State.outsb_events (s : State) : s.outsb.events = s.events := by simp [State.outsb]

@[simp] theorem State.outsw_segs (s : State) : s.outsw.segs = s.segs := by simp [State.outsw]
@[simp] theorem State.outsw_ip (s : State) : s.outsw.ip = s.ip := by simp [State.outsw]
@[simp] theorem State.outsw_flags (s : State) : s.outsw.flags = s.flags := by simp [State.outsw]
@[simp] theorem State.outsw_halt (s : State) : s.outsw.halt = s.halt := by simp [State.outsw]
@[simp] theorem State.outsw_trapLatch (s : State) : s.outsw.trapLatch = s.trapLatch := by simp [State.outsw]
@[simp] theorem State.outsw_segOverride (s : State) : s.outsw.segOverride = s.segOverride := by simp [State.outsw]
@[simp] theorem State.outsw_repMode (s : State) : s.outsw.repMode = s.repMode := by simp [State.outsw]
@[simp] theorem State.outsw_firstIp (s : State) : s.outsw.firstIp = s.firstIp := by simp [State.outsw]
@[simp] theorem State.outsw_mem (s : State) : s.outsw.mem = s.mem := by simp [State.outsw]
@[simp] theorem State.outsw_ro (s : State) : s.outsw.ro = s.ro := by simp [State.outsw]
@[simp] theorem State.outsw_ports (s : State) : s.outsw.ports = s.ports := by simp [State.outsw]
@[simp] theorem State.outsw_sched (s : State) : s.outsw.sched = s.sched := by simp [State.outsw]
@[simp] theorem State.outsw_instrCount (s : State) : s.outsw.instrCount = s.instrCount := by simp [State.outsw]
@[simp] theorem State.outsw_running (s : State) : s.outsw.running = s.running := by simp [State.outsw]
@[simp] theorem State.outsw_draws (s : State) : s.outsw.draws = s.draws := by simp [State.outsw]
@[simp] theorem State.outsw_events (s : State) : s.outsw.events = s.events := by simp [State.outsw]

end Sys2Proof.Machine
end

