-- ==== Sys2Proof/Laws/SlotOps.lean ====
section
/-! SUPPORT. What the events of a slot boundary and the parts of a slot leave unchanged: one lemma for each field. -/

namespace Sys2Proof.Machine

@[simp] theorem State.doirq_regs (s : State) (line : Nat) : (s.doirq line).regs = s.regs := rfl
@[simp] theorem State.doirq_segs (s : State) (line : Nat) : (s.doirq line).segs = s.segs := rfl
@[simp] theorem State.doirq_ip (s : State) (line : Nat) : (s.doirq line).ip = s.ip := rfl
@[simp] theorem State.doirq_flags (s : State) (line : Nat) : (s.doirq line).flags = s.flags := rfl
@[simp] theorem State.doirq_halt (s : State) (line : Nat) : (s.doirq line).halt = s.halt := rfl
@[simp] theorem State.doirq_trapLatch (s : State) (line : Nat) : (s.doirq line).trapLatch = s.trapLatch := rfl
@[simp] theorem State.doirq_segOverride (s : State) (line : Nat) : (s.doirq line).segOverride = s.segOverride := rfl
@[simp] theorem State.doirq_repMode (s : State) (line : Nat) : (s.doirq line).repMode = s.repMode := rfl
@[simp] theorem State.doirq_firstIp (s : State) (line : Nat) : (s.doirq line).firstIp = s.firstIp := rfl
@[simp] theorem State.doirq_mem (s : State) (line : Nat) : (s.doirq line).mem = s.mem := rfl
@[simp] theorem State.doirq_ro (s : State) (line : Nat) : (s.doirq line).ro = s.ro := rfl
@[simp] theorem State.doirq_pit (s : State) (line : Nat) : (s.doirq line).pit = s.pit := rfl
@[simp] theorem State.doirq_dma (s : State) (line : Nat) : (s.doirq line).dma = s.dma := rfl
@[simp] theorem State.doirq_ports (s : State) (line : Nat) : (s.doirq line).ports = s.ports := rfl
@[simp] theorem State.doirq_sched (s : State) (line : Nat) : (s.doirq line).sched = s.sched := rfl
@[simp] theorem State.doirq_instrCount (s : State) (line : Nat) : (s.doirq line).instrCount = s.instrCount := rfl
@[simp] theorem State.doirq_running (s : State) (line : Nat) : (s.doirq line).running = s.running := rfl
@[simp] theorem State.doirq_draws (s : State) (line : Nat) : (s.doirq line).draws = s.draws := rfl
@[simp] theorem State.doirq_events (s : State) (line : Nat) : (s.doirq line).events = s.events := rfl
@[simp] theorem State.doirq_outputs (s : State) (line : Nat) : (s.doirq line).outputs = s.outputs := rfl

@[simp] theorem State.dmaAdvance_regs (s : State) (c : Nat) : (s.dmaAdvance c).regs = s.regs := by simp only [State.dmaAdvance]; split <;> rfl
@[simp] theorem State.dmaAdvance_segs (s : State) (c : Nat) : (s.dmaAdvance c).segs = s.segs := by simp only [State.dmaAdvance]; split <;> rfl
@[simp] theorem State.dmaAdvance_ip (s : State) (c : Nat) : (s.dmaAdvance c).ip = s.ip := by simp only [State.dmaAdvance]; split <;> rfl
@[simp] theorem State.dmaAdvance_flags (s : State) (c : Nat) : (s.dmaAdvance c).flags = s.flags := by simp only [State.dmaAdvance]; split <;> rfl
@[simp] theorem State.dmaAdvance_halt (s : State) (c : Nat) : (s.dmaAdvance c).halt = s.halt := by simp only [State.dmaAdvance]; split <;> rfl
@[simp] theorem State.dmaAdvance_trapLatch (s : State) (c : Nat) : (s.dmaAdvance c).trapLatch = s.trapLatch := by simp only [State.dmaAdvance]; split <;> rfl
@[simp] theorem State.dmaAdvance_segOverride (s : State) (c : Nat) : (s.dmaAdvance c).segOverride = s.segOverride := by simp only [State.dmaAdvance]; split <;> rfl
@[simp] theorem State.dmaAdvance_repMode (s : State) (c : Nat) : (s.dmaAdvance c).repMode = s.repMode := by simp only [State.dmaAdvance]; split <;> rfl
@[simp] theorem State.dmaAdvance_firstIp (s : State) (c : Nat) : (s.dmaAdvance c).firstIp = s.firstIp := by simp only [State.dmaAdvance]; split <;> rfl
@[simp] theorem State.dmaAdvance_mem (s : State) (c : Nat) : (s.dmaAdvance c).mem = s.mem := by simp only [State.dmaAdvance]; split <;> rfl
@[simp] theorem State.dmaAdvance_ro (s : State) (c : Nat) : (s.dmaAdvance c).ro = s.ro := by simp only [State.dmaAdvance]; split <;> rfl
@[simp] theorem State.dmaAdvance_pic (s : State) (c : Nat) : (s.dmaAdvance c).pic = s.pic := by simp only [State.dmaAdvance]; split <;> rfl
@[simp] theorem State.dmaAdvance_pit (s : State) (c : Nat) : (s.dmaAdvance c).pit = s.pit := by simp only [State.dmaAdvance]; split <;> rfl
@[simp] theorem State.dmaAdvance_ports (s : State) (c : Nat) : (s.dmaAdvance c).ports = s.ports := by simp only [State.dmaAdvance]; split <;> rfl
@[simp] theorem State.dmaAdvance_sched (s : State) (c : Nat) : (s.dmaAdvance c).sched = s.sched := by simp only [State.dmaAdvance]; split <;> rfl
@[simp] theorem State.dmaAdvance_instrCount (s : State) (c : Nat) : (s.dmaAdvance c).instrCount = s.instrCount := by simp only [State.dmaAdvance]; split <;> rfl
@[simp] theorem State.dmaAdvance_running (s : State) (c : Nat) : (s.dmaAdvance c).running = s.running := by simp only [State.dmaAdvance]; split <;> rfl
@[simp] theorem State.dmaAdvance_draws (s : State) (c : Nat) : (s.dmaAdvance c).draws = s.draws := by simp only [State.dmaAdvance]; split <;> rfl
@[simp] theorem State.dmaAdvance_events (s : State) (c : Nat) : (s.dmaAdvance c).events = s.events := by simp only [State.dmaAdvance]; split <;> rfl
@[simp] theorem State.dmaAdvance_outputs (s : State) (c : Nat) : (s.dmaAdvance c).outputs = s.outputs := by simp only [State.dmaAdvance]; split <;> rfl

@[simp] theorem State.dmaRead_regs (s : State) (c : Nat) : (s.dmaRead c).regs = s.regs := by simp [State.dmaRead]
@[simp] theorem State.dmaRead_segs (s : State) (c : Nat) : (s.dmaRead c).segs = s.segs := by simp [State.dmaRead]
@[simp] theorem State.dmaRead_ip (s : State) (c : Nat) : (s.dmaRead c).ip = s.ip := by simp [State.dmaRead]
@[simp] theorem State.dmaRead_flags (s : State) (c : Nat) : (s.dmaRead c).flags = s.flags := by simp [State.dmaRead]
@[simp] theorem State.dmaRead_halt (s : State) (c : Nat) : (s.dmaRead c).halt = s.halt := by simp [State.dmaRead]
@[simp] theorem State.dmaRead_trapLatch (s : State) (c : Nat) : (s.dmaRead c).trapLatch = s.trapLatch := by simp [State.dmaRead]
@[simp] theorem State.dmaRead_segOverride (s : State) (c : Nat) : (s.dmaRead c).segOverride = s.segOverride := by simp [State.dmaRead]
@[simp] theorem State.dmaRead_repMode (s : State) (c : Nat) : (s.dmaRead c).repMode = s.repMode := by simp [State.dmaRead]
@[simp] theorem State.dmaRead_firstIp (s : State) (c : Nat) : (s.dmaRead c).firstIp = s.firstIp := by simp [State.dmaRead]
@[simp] theorem State.dmaRead_mem (s : State) (c : Nat) : (s.dmaRead c).mem = s.mem := by simp [State.dmaRead]
@[simp] theorem State.dmaRead_ro (s : State) (c : Nat) : (s.dmaRead c).ro = s.ro := by simp [State.dmaRead]
@[simp] theorem State.dmaRead_pic (s : State) (c : Nat) : (s.dmaRead c).pic = s.pic := by simp [State.dmaRead]
@[simp] theorem State.dmaRead_pit (s : State) (c : Nat) : (s.dmaRead c).pit = s.pit := by simp [State.dmaRead]
@[simp] theorem State.dmaRead_ports (s : State) (c : Nat) : (s.dmaRead c).ports = s.ports := by simp [State.dmaRead]
@[simp] theorem State.dmaRead_sched (s : State) (c : Nat) : (s.dmaRead c).sched = s.sched := by simp [State.dmaRead]
@[simp] theorem State.dmaRead_instrCount (s : State) (c : Nat) : (s.dmaRead c).instrCount = s.instrCount := by simp [State.dmaRead]
@[simp] theorem State.dmaRead_running (s : State) (c : Nat) : (s.dmaRead c).running = s.running := by simp [State.dmaRead]
@[simp] theorem State.dmaRead_draws (s : State) (c : Nat) : (s.dmaRead c).draws = s.draws := by simp [State.dmaRead]
@[simp] theorem State.dmaRead_events (s : State) (c : Nat) : (s.dmaRead c).events = s.events := by simp [State.dmaRead]

@[simp] theorem State.servicePit_regs (s : State) : s.servicePit.regs = s.regs := by simp only [State.servicePit]; split <;> rfl
@[simp] theorem State.servicePit_segs (s : State) : s.servicePit.segs = s.segs := by simp only [State.servicePit]; split <;> rfl
@[simp] theorem State.servicePit_ip (s : State) : s.servicePit.ip = s.ip := by simp only [State.servicePit]; split <;> rfl
@[simp] theorem State.servicePit_flags (s : State) : s.servicePit.flags = s.flags := by simp only [State.servicePit]; split <;> rfl
@[simp] theorem State.servicePit_halt (s : State) : s.servicePit.halt = s.halt := by simp only [State.servicePit]; split <;> rfl
@[simp] theorem State.servicePit_trapLatch (s : State) : s.servicePit.trapLatch = s.trapLatch := by simp only [State.servicePit]; split <;> rfl
@[simp] theorem State.servicePit_segOverride (s : State) : s.servicePit.segOverride = s.segOverride := by simp only [State.servicePit]; split <;> rfl
@[simp] theorem State.servicePit_repMode (s : State) : s.servicePit.repMode = s.repMode := by simp only [State.servicePit]; split <;> rfl
@[simp] theorem State.servicePit_firstIp (s : State) : s.servicePit.firstIp = s.firstIp := by simp only [State.servicePit]; split <;> rfl
@[simp] theorem State.servicePit_mem (s : State) : s.servicePit.mem = s.mem := by simp only [State.servicePit]; split <;> rfl
@[simp] theorem State.servicePit_ro (s : State) : s.servicePit.ro = s.ro := by simp only [State.servicePit]; split <;> rfl
@[simp] theorem State.servicePit_pit (s : State) : s.servicePit.pit = s.pit := by simp only [State.servicePit]; split <;> rfl
@[simp] theorem State.servicePit_dma (s : State) : s.servicePit.dma = s.dma := by simp only [State.servicePit]; split <;> rfl
@[simp] theorem State.servicePit_ports (s : State) : s.servicePit.ports = s.ports := by simp only [State.servicePit]; split <;> rfl
@[simp] theorem State.servicePit_sched (s : State) : s.servicePit.sched = s.sched := by simp only [State.servicePit]; split <;> rfl
@[simp] theorem State.servicePit_instrCount (s : State) : s.servicePit.instrCount = s.instrCount := by simp only [State.servicePit]; split <;> rfl
@[simp] theorem State.servicePit_running (s : State) : s.servicePit.running = s.running := by simp only [State.servicePit]; split <;> rfl
@[simp] theorem State.servicePit_draws (s : State) : s.servicePit.draws = s.draws := by simp only [State.servicePit]; split <;> rfl
@[simp] theorem State.servicePit_events (s : State) : s.servicePit.events = s.events := by simp only [State.servicePit]; split <;> rfl
@[simp] theorem State.servicePit_outputs (s : State) : s.servicePit.outputs = s.outputs := by simp only [State.servicePit]; split <;> rfl

/-- The effective reload is a divisor. -/
theorem PitChannel.eff_pos (x : PitChannel) : 0 < x.eff := by
  unfold PitChannel.eff
  split
  · decide
  · rename_i h
    exact Nat.pos_of_ne_zero fun e => h (BitVec.eq_of_toNat_eq e)

/-- Rounding moves a quotient by less than one. -/
theorem roundTicks_bounds (n : Nat) {d : Nat} (hd : 0 < d) :
    roundTicks n d * d < n + d ∧ n < (roundTicks n d + 1) * d := by
  have h := Nat.div_add_mod n d
  have hm := Nat.mod_lt n hd
  have hc := Nat.mul_comm d (n / d)
  unfold roundTicks
  split <;> simp only [Nat.add_mul, Nat.one_mul, Nat.zero_mul] <;> omega

/-- A poll is a `tick()` or nothing. -/
theorem State.poll_cases (s : State) (now : Nat) : s.poll now = s.tick now ∨ s.poll now = s := by
  unfold State.poll
  split
  · exact .inl rfl
  · exact .inr rfl

/-- Loading images is loading each in turn. -/
theorem State.loadImages_eq_foldl (l : List Image) (s : State) :
    s.loadImages l = l.foldl (fun u x => u.loadImage x.addr x.readOnly x.bytes) s := by
  induction l generalizing s with
  | nil => rfl
  | cons x l ih => exact ih _

/-- `loadImage` changes memory and the read-only map only. -/
theorem State.loadImage_frame (l : List Byte) (s : State) (a : Addr) (readOnly : Bool) (m : Memory) (r : RoMap) :
    { s.loadImage a readOnly l with mem := m, ro := r } = { s with mem := m, ro := r } := by
  induction l generalizing s a with
  | nil => rfl
  | cons b l ih =>
    rw [State.loadImage, ih]
    split <;> rfl

@[simp] theorem State.tick_regs (s : State) (now : Nat) : (s.tick now).regs = s.regs := by simp only [State.tick]; split <;> simp
@[simp] theorem State.tick_segs (s : State) (now : Nat) : (s.tick now).segs = s.segs := by simp only [State.tick]; split <;> simp
@[simp] theorem State.tick_ip (s : State) (now : Nat) : (s.tick now).ip = s.ip := by simp only [State.tick]; split <;> simp
@[simp] theorem State.tick_flags (s : State) (now : Nat) : (s.tick now).flags = s.flags := by simp only [State.tick]; split <;> simp
@[simp] theorem State.tick_halt (s : State) (now : Nat) : (s.tick now).halt = s.halt := by simp only [State.tick]; split <;> simp
@[simp] theorem State.tick_trapLatch (s : State) (now : Nat) : (s.tick now).trapLatch = s.trapLatch := by simp only [State.tick]; split <;> simp
@[simp] theorem State.tick_segOverride (s : State) (now : Nat) : (s.tick now).segOverride = s.segOverride := by simp only [State.tick]; split <;> simp
@[simp] theorem State.tick_repMode (s : State) (now : Nat) : (s.tick now).repMode = s.repMode := by simp only [State.tick]; split <;> simp
@[simp] theorem State.tick_firstIp (s : State) (now : Nat) : (s.tick now).firstIp = s.firstIp := by simp only [State.tick]; split <;> simp
@[simp] theorem State.tick_mem (s : State) (now : Nat) : (s.tick now).mem = s.mem := by simp only [State.tick]; split <;> simp
@[simp] theorem State.tick_ro (s : State) (now : Nat) : (s.tick now).ro = s.ro := by simp only [State.tick]; split <;> simp
@[simp] theorem State.tick_dma (s : State) (now : Nat) : (s.tick now).dma = s.dma := by simp only [State.tick]; split <;> simp
@[simp] theorem State.tick_ports (s : State) (now : Nat) : (s.tick now).ports = s.ports := by simp only [State.tick]; split <;> simp
@[simp] theorem State.tick_instrCount (s : State) (now : Nat) : (s.tick now).instrCount = s.instrCount := by simp only [State.tick]; split <;> simp
@[simp] theorem State.tick_running (s : State) (now : Nat) : (s.tick now).running = s.running := by simp only [State.tick]; split <;> simp
@[simp] theorem State.tick_events (s : State) (now : Nat) : (s.tick now).events = s.events := by simp only [State.tick]; split <;> simp
@[simp] theorem State.tick_outputs (s : State) (now : Nat) : (s.tick now).outputs = s.outputs := by simp only [State.tick]; split <;> simp

@[simp] theorem State.poll_regs (s : State) (now : Nat) : (s.poll now).regs = s.regs := by simp only [State.poll]; split <;> simp
@[simp] theorem State.poll_segs (s : State) (now : Nat) : (s.poll now).segs = s.segs := by simp only [State.poll]; split <;> simp
@[simp] theorem State.poll_ip (s : State) (now : Nat) : (s.poll now).ip = s.ip := by simp only [State.poll]; split <;> simp
@[simp] theorem State.poll_flags (s : State) (now : Nat) : (s.poll now).flags = s.flags := by simp only [State.poll]; split <;> simp
@[simp] theorem State.poll_halt (s : State) (now : Nat) : (s.poll now).halt = s.halt := by simp only [State.poll]; split <;> simp
@[simp] theorem State.poll_trapLatch (s : State) (now : Nat) : (s.poll now).trapLatch = s.trapLatch := by simp only [State.poll]; split <;> simp
@[simp] theorem State.poll_segOverride (s : State) (now : Nat) : (s.poll now).segOverride = s.segOverride := by simp only [State.poll]; split <;> simp
@[simp] theorem State.poll_repMode (s : State) (now : Nat) : (s.poll now).repMode = s.repMode := by simp only [State.poll]; split <;> simp
@[simp] theorem State.poll_firstIp (s : State) (now : Nat) : (s.poll now).firstIp = s.firstIp := by simp only [State.poll]; split <;> simp
@[simp] theorem State.poll_mem (s : State) (now : Nat) : (s.poll now).mem = s.mem := by simp only [State.poll]; split <;> simp
@[simp] theorem State.poll_ro (s : State) (now : Nat) : (s.poll now).ro = s.ro := by simp only [State.poll]; split <;> simp
@[simp] theorem State.poll_dma (s : State) (now : Nat) : (s.poll now).dma = s.dma := by simp only [State.poll]; split <;> simp
@[simp] theorem State.poll_ports (s : State) (now : Nat) : (s.poll now).ports = s.ports := by simp only [State.poll]; split <;> simp
@[simp] theorem State.poll_instrCount (s : State) (now : Nat) : (s.poll now).instrCount = s.instrCount := by simp only [State.poll]; split <;> simp
@[simp] theorem State.poll_running (s : State) (now : Nat) : (s.poll now).running = s.running := by simp only [State.poll]; split <;> simp
@[simp] theorem State.poll_events (s : State) (now : Nat) : (s.poll now).events = s.events := by simp only [State.poll]; split <;> simp
@[simp] theorem State.poll_outputs (s : State) (now : Nat) : (s.poll now).outputs = s.outputs := by simp only [State.poll]; split <;> simp

@[simp] theorem State.applyEvent_regs (s : State) (e : Event) : (s.applyEvent e).regs = s.regs := by cases e <;> simp [State.applyEvent]
@[simp] theorem State.applyEvent_segs (s : State) (e : Event) : (s.applyEvent e).segs = s.segs := by cases e <;> simp [State.applyEvent]
@[simp] theorem State.applyEvent_ip (s : State) (e : Event) : (s.applyEvent e).ip = s.ip := by cases e <;> simp [State.applyEvent]
@[simp] theorem State.applyEvent_flags (s : State) (e : Event) : (s.applyEvent e).flags = s.flags := by cases e <;> simp [State.applyEvent]
@[simp] theorem State.applyEvent_halt (s : State) (e : Event) : (s.applyEvent e).halt = s.halt := by cases e <;> simp [State.applyEvent]
@[simp] theorem State.applyEvent_trapLatch (s : State) (e : Event) : (s.applyEvent e).trapLatch = s.trapLatch := by cases e <;> simp [State.applyEvent]
@[simp] theorem State.applyEvent_segOverride (s : State) (e : Event) : (s.applyEvent e).segOverride = s.segOverride := by cases e <;> simp [State.applyEvent]
@[simp] theorem State.applyEvent_repMode (s : State) (e : Event) : (s.applyEvent e).repMode = s.repMode := by cases e <;> simp [State.applyEvent]
@[simp] theorem State.applyEvent_firstIp (s : State) (e : Event) : (s.applyEvent e).firstIp = s.firstIp := by cases e <;> simp [State.applyEvent]
@[simp] theorem State.applyEvent_mem (s : State) (e : Event) : (s.applyEvent e).mem = s.mem := by cases e <;> simp [State.applyEvent]
@[simp] theorem State.applyEvent_ro (s : State) (e : Event) : (s.applyEvent e).ro = s.ro := by cases e <;> simp [State.applyEvent]
@[simp] theorem State.applyEvent_ports (s : State) (e : Event) : (s.applyEvent e).ports = s.ports := by cases e <;> simp [State.applyEvent]
@[simp] theorem State.applyEvent_instrCount (s : State) (e : Event) : (s.applyEvent e).instrCount = s.instrCount := by cases e <;> simp [State.applyEvent]
@[simp] theorem State.applyEvent_events (s : State) (e : Event) : (s.applyEvent e).events = s.events := by cases e <;> simp [State.applyEvent]

@[simp] theorem State.applyEvents_regs (s : State) (l : List Event) : (s.applyEvents l).regs = s.regs := by induction l generalizing s with | nil => rfl | cons e l ih => simp [State.applyEvents, ih]
@[simp] theorem State.applyEvents_segs (s : State) (l : List Event) : (s.applyEvents l).segs = s.segs := by induction l generalizing s with | nil => rfl | cons e l ih => simp [State.applyEvents, ih]
@[simp] theorem State.applyEvents_ip (s : State) (l : List Event) : (s.applyEvents l).ip = s.ip := by induction l generalizing s with | nil => rfl | cons e l ih => simp [State.applyEvents, ih]
@[simp] theorem State.applyEvents_flags (s : State) (l : List Event) : (s.applyEvents l).flags = s.flags := by induction l generalizing s with | nil => rfl | cons e l ih => simp [State.applyEvents, ih]
@[simp] theorem State.applyEvents_halt (s : State) (l : List Event) : (s.applyEvents l).halt = s.halt := by induction l generalizing s with | nil => rfl | cons e l ih => simp [State.applyEvents, ih]
@[simp] theorem State.applyEvents_trapLatch (s : State) (l : List Event) : (s.applyEvents l).trapLatch = s.trapLatch := by induction l generalizing s with | nil => rfl | cons e l ih => simp [State.applyEvents, ih]
@[simp] theorem State.applyEvents_segOverride (s : State) (l : List Event) : (s.applyEvents l).segOverride = s.segOverride := by induction l generalizing s with | nil => rfl | cons e l ih => simp [State.applyEvents, ih]
@[simp] theorem State.applyEvents_repMode (s : State) (l : List Event) : (s.applyEvents l).repMode = s.repMode := by induction l generalizing s with | nil => rfl | cons e l ih => simp [State.applyEvents, ih]
@[simp] theorem State.applyEvents_firstIp (s : State) (l : List Event) : (s.applyEvents l).firstIp = s.firstIp := by induction l generalizing s with | nil => rfl | cons e l ih => simp [State.applyEvents, ih]
@[simp] theorem State.applyEvents_mem (s : State) (l : List Event) : (s.applyEvents l).mem = s.mem := by induction l generalizing s with | nil => rfl | cons e l ih => simp [State.applyEvents, ih]
@[simp] theorem State.applyEvents_ro (s : State) (l : List Event) : (s.applyEvents l).ro = s.ro := by induction l generalizing s with | nil => rfl | cons e l ih => simp [State.applyEvents, ih]
@[simp] theorem State.applyEvents_ports (s : State) (l : List Event) : (s.applyEvents l).ports = s.ports := by induction l generalizing s with | nil => rfl | cons e l ih => simp [State.applyEvents, ih]
@[simp] theorem State.applyEvents_instrCount (s : State) (l : List Event) : (s.applyEvents l).instrCount = s.instrCount := by induction l generalizing s with | nil => rfl | cons e l ih => simp [State.applyEvents, ih]
@[simp] theorem State.applyEvents_events (s : State) (l : List Event) : (s.applyEvents l).events = s.events := by induction l generalizing s with | nil => rfl | cons e l ih => simp [State.applyEvents, ih]

@[simp] theorem State.boundary_regs (s : State) : s.boundary.regs = s.regs := by simp only [State.boundary]; split <;> simp
@[simp] theorem State.boundary_segs (s : State) : s.boundary.segs = s.segs := by simp only [State.boundary]; split <;> simp
@[simp] theorem State.boundary_ip (s : State) : s.boundary.ip = s.ip := by simp only [State.boundary]; split <;> simp
@[simp] theorem State.boundary_flags (s : State) : s.boundary.flags = s.flags := by simp only [State.boundary]; split <;> simp
@[simp] theorem State.boundary_halt (s : State) : s.boundary.halt = s.halt := by simp only [State.boundary]; split <;> simp
@[simp] theorem State.boundary_trapLatch (s : State) : s.boundary.trapLatch = s.trapLatch := by simp only [State.boundary]; split <;> simp
@[simp] theorem State.boundary_segOverride (s : State) : s.boundary.segOverride = s.segOverride := by simp only [State.boundary]; split <;> simp
@[simp] theorem State.boundary_repMode (s : State) : s.boundary.repMode = s.repMode := by simp only [State.boundary]; split <;> simp
@[simp] theorem State.boundary_firstIp (s : State) : s.boundary.firstIp = s.firstIp := by simp only [State.boundary]; split <;> simp
@[simp] theorem State.boundary_mem (s : State) : s.boundary.mem = s.mem := by simp only [State.boundary]; split <;> simp
@[simp] theorem State.boundary_ro (s : State) : s.boundary.ro = s.ro := by simp only [State.boundary]; split <;> simp
@[simp] theorem State.boundary_ports (s : State) : s.boundary.ports = s.ports := by simp only [State.boundary]; split <;> simp
@[simp] theorem State.boundary_instrCount (s : State) : s.boundary.instrCount = s.instrCount := by simp only [State.boundary]; split <;> simp

@[simp] theorem State.beginDecode_regs (s : State) : s.beginDecode.regs = s.regs := rfl
@[simp] theorem State.beginDecode_segs (s : State) : s.beginDecode.segs = s.segs := rfl
@[simp] theorem State.beginDecode_ip (s : State) : s.beginDecode.ip = s.ip := rfl
@[simp] theorem State.beginDecode_flags (s : State) : s.beginDecode.flags = s.flags := rfl
@[simp] theorem State.beginDecode_halt (s : State) : s.beginDecode.halt = s.halt := rfl
@[simp] theorem State.beginDecode_trapLatch (s : State) : s.beginDecode.trapLatch = s.trapLatch := rfl
@[simp] theorem State.beginDecode_mem (s : State) : s.beginDecode.mem = s.mem := rfl
@[simp] theorem State.beginDecode_ro (s : State) : s.beginDecode.ro = s.ro := rfl
@[simp] theorem State.beginDecode_pic (s : State) : s.beginDecode.pic = s.pic := rfl
@[simp] theorem State.beginDecode_pit (s : State) : s.beginDecode.pit = s.pit := rfl
@[simp] theorem State.beginDecode_dma (s : State) : s.beginDecode.dma = s.dma := rfl
@[simp] theorem State.beginDecode_ports (s : State) : s.beginDecode.ports = s.ports := rfl
@[simp] theorem State.beginDecode_sched (s : State) : s.beginDecode.sched = s.sched := rfl
@[simp] theorem State.beginDecode_instrCount (s : State) : s.beginDecode.instrCount = s.instrCount := rfl
@[simp] theorem State.beginDecode_running (s : State) : s.beginDecode.running = s.running := rfl
@[simp] theorem State.beginDecode_draws (s : State) : s.beginDecode.draws = s.draws := rfl
@[simp] theorem State.beginDecode_events (s : State) : s.beginDecode.events = s.events := rfl
@[simp] theorem State.beginDecode_outputs (s : State) : s.beginDecode.outputs = s.outputs := rfl

@[simp] theorem State.takeTrap_halt (s : State) : s.takeTrap.halt = s.halt := by simp only [State.takeTrap]; split <;> simp
@[simp] theorem State.takeTrap_segOverride (s : State) : s.takeTrap.segOverride = s.segOverride := by simp only [State.takeTrap]; split <;> simp
@[simp] theorem State.takeTrap_repMode (s : State) : s.takeTrap.repMode = s.repMode := by simp only [State.takeTrap]; split <;> simp
@[simp] theorem State.takeTrap_firstIp (s : State) : s.takeTrap.firstIp = s.firstIp := by simp only [State.takeTrap]; split <;> simp
@[simp] theorem State.takeTrap_ro (s : State) : s.takeTrap.ro = s.ro := by simp only [State.takeTrap]; split <;> simp
@[simp] theorem State.takeTrap_pic (s : State) : s.takeTrap.pic = s.pic := by simp only [State.takeTrap]; split <;> simp
@[simp] theorem State.takeTrap_pit (s : State) : s.takeTrap.pit = s.pit := by simp only [State.takeTrap]; split <;> simp
@[simp] theorem State.takeTrap_dma (s : State) : s.takeTrap.dma = s.dma := by simp only [State.takeTrap]; split <;> simp
@[simp] theorem State.takeTrap_ports (s : State) : s.takeTrap.ports = s.ports := by simp only [State.takeTrap]; split <;> simp
@[simp] theorem State.takeTrap_sched (s : State) : s.takeTrap.sched = s.sched := by simp only [State.takeTrap]; split <;> simp
@[simp] theorem State.takeTrap_instrCount (s : State) : s.takeTrap.instrCount = s.instrCount := by simp only [State.takeTrap]; split <;> simp
@[simp] theorem State.takeTrap_running (s : State) : s.takeTrap.running = s.running := by simp only [State.takeTrap]; split <;> simp
@[simp] theorem State.takeTrap_draws (s : State) : s.takeTrap.draws = s.draws := by simp only [State.takeTrap]; split <;> simp
@[simp] theorem State.takeTrap_events (s : State) : s.takeTrap.events = s.events := by simp only [State.takeTrap]; split <;> simp

@[simp] theorem State.takeInterrupt_trapLatch (s : State) : s.takeInterrupt.trapLatch = s.trapLatch := by simp [State.takeInterrupt]
@[simp] theorem State.takeInterrupt_segOverride (s : State) : s.takeInterrupt.segOverride = s.segOverride := by simp [State.takeInterrupt]
@[simp] theorem State.takeInterrupt_repMode (s : State) : s.takeInterrupt.repMode = s.repMode := by simp [State.takeInterrupt]
@[simp] theorem State.takeInterrupt_firstIp (s : State) : s.takeInterrupt.firstIp = s.firstIp := by simp [State.takeInterrupt]
@[simp] theorem State.takeInterrupt_ro (s : State) : s.takeInterrupt.ro = s.ro := by simp [State.takeInterrupt]
@[simp] theorem State.takeInterrupt_pit (s : State) : s.takeInterrupt.pit = s.pit := by simp [State.takeInterrupt]
@[simp] theorem State.takeInterrupt_dma (s : State) : s.takeInterrupt.dma = s.dma := by simp [State.takeInterrupt]
@[simp] theorem State.takeInterrupt_ports (s : State) : s.takeInterrupt.ports = s.ports := by simp [State.takeInterrupt]
@[simp] theorem State.takeInterrupt_sched (s : State) : s.takeInterrupt.sched = s.sched := by simp [State.takeInterrupt]
@[simp] theorem State.takeInterrupt_instrCount (s : State) : s.takeInterrupt.instrCount = s.instrCount := by simp [State.takeInterrupt]
@[simp] theorem State.takeInterrupt_running (s : State) : s.takeInterrupt.running = s.running := by simp [State.takeInterrupt]
@[simp] theorem State.takeInterrupt_draws (s : State) : s.takeInterrupt.draws = s.draws := by simp [State.takeInterrupt]
@[simp] theorem State.takeInterrupt_events (s : State) : s.takeInterrupt.events = s.events := by simp [State.takeInterrupt]

@[simp] theorem State.retire_regs (s : State) : s.retire.regs = s.regs := rfl
@[simp] theorem State.retire_segs (s : State) : s.retire.segs = s.segs := rfl
@[simp] theorem State.retire_ip (s : State) : s.retire.ip = s.ip := rfl
@[simp] theorem State.retire_flags (s : State) : s.retire.flags = s.flags := rfl
@[simp] theorem State.retire_halt (s : State) : s.retire.halt = s.halt := rfl
@[simp] theorem State.retire_trapLatch (s : State) : s.retire.trapLatch = s.trapLatch := rfl
@[simp] theorem State.retire_segOverride (s : State) : s.retire.segOverride = s.segOverride := rfl
@[simp] theorem State.retire_repMode (s : State) : s.retire.repMode = s.repMode := rfl
@[simp] theorem State.retire_firstIp (s : State) : s.retire.firstIp = s.firstIp := rfl
@[simp] theorem State.retire_mem (s : State) : s.retire.mem = s.mem := rfl
@[simp] theorem State.retire_ro (s : State) : s.retire.ro = s.ro := rfl
@[simp] theorem State.retire_pic (s : State) : s.retire.pic = s.pic := rfl
@[simp] theorem State.retire_pit (s : State) : s.retire.pit = s.pit := rfl
@[simp] theorem State.retire_dma (s : State) : s.retire.dma = s.dma := rfl
@[simp] theorem State.retire_ports (s : State) : s.retire.ports = s.ports := rfl
@[simp] theorem State.retire_sched (s : State) : s.retire.sched = s.sched := rfl
@[simp] theorem State.retire_running (s : State) : s.retire.running = s.running := rfl
@[simp] theorem State.retire_draws (s : State) : s.retire.draws = s.draws := rfl
@[simp] theorem State.retire_events (s : State) : s.retire.events = s.events := rfl
@[simp] theorem State.retire_outputs (s : State) : s.retire.outputs = s.outputs := rfl

end Sys2Proof.Machine
end

