-- ==== Sys2Proof/Tests/Slice0.lean ====
section
/-! SUPPORT. Tests: ill-formed terms that WellFormed.lean refuses, words written out from the encoding tables of the spec,
single steps with the results that spec/95_test_vectors.md or a numbered rule gives, and a witness for each obligation that
has hypotheses. -/

open Sys2Proof Sys2Proof.Machine

namespace Sys2Proof.Tests

/-! ### Ill-formed terms are refused (one for each check of WellFormed.lean) -/

theorem smoke_bp_without_displacement : Instr.wellFormed (.lea .ax (.based .bp .no)) = false := by decide
theorem smoke_byte_operand : Instr.wellFormed (.mul (.b (.mem (.based .bp .no)))) = false := by decide
theorem smoke_word_operand : Instr.wellFormed (.mul (.w (.mem (.based .bp .no)))) = false := by decide
theorem smoke_rm_reg : (RmReg.b (.mem (.based .bp .no)) .al).wellFormed = false ∧
    (RmReg.w (.mem (.based .bp .no)) .ax).wellFormed = false := by decide
theorem smoke_rm_imm : (RmImm.b (.mem (.based .bp .no)) 1).wellFormed = false ∧
    (RmImm.w (.mem (.based .bp .no)) 1).wellFormed = false := by decide
theorem smoke_alu_forms :
    [AluForm.rmReg (.b (.mem (.based .bp .no)) .al), .regRm (.w (.mem (.based .bp .no)) .ax),
      .rmImm (.b (.mem (.based .bp .no)) 1), .rmImm8s (.mem (.based .bp .no)) 1].any AluForm.wellFormed = false := by
  decide
theorem smoke_test_forms : [TestForm.rmReg (.b (.mem (.based .bp .no)) .al),
    .rmImm (.w (.mem (.based .bp .no)) 1)].any TestForm.wellFormed = false := by decide
theorem smoke_inc : Instr.wellFormed (.inc (.rm (.b (.mem (.based .bp .no))))) = false := by decide
theorem smoke_shift_immediate_needs_ext186 :
    Instr.wellFormedWith false (.shl (.b (.reg .al)) (.imm 4)) = false ∧
    Instr.wellFormedWith true (.shl (.b (.reg .al)) (.imm 4)) = true := by decide
theorem smoke_ext186 :
    [Instr.pusha, .popa, .bound .ax (.direct 0), .pushImm16 0, .pushImm8 0, .imulImm16 .ax (.reg .ax) 0,
      .imulImm8 .ax (.reg .ax) 0, .enter 0 0, .leave].any (Instr.wellFormedWith false) = false := by decide
theorem smoke_legal_first_byte : Instr.wellFormed (.illegalOp 0x90) = false := by decide
theorem smoke_legal_second_byte : Instr.wellFormed (.illegalModrm 0xFF 6 (.reg .ax)) = false ∧
    Instr.wellFormed (.illegalModrm 0xFF 7 (.reg .ax)) = true := by decide

/-! ### Every constructor's decoding, by bytes written out from the encoding tables of spec/30_encoding.md R117 to R125 -/

/-- The bytes decode to the instruction, and nothing is left. -/
def reads (p : List Byte × Instr) : Bool :=
  match decode p.1 with
  | .ok (i, []) => i == p.2
  | _ => false

theorem decode_two_operand : [
    ([0x00, 0xD8], Instr.add (.rmReg (.b (.reg .al) .bl))), ([0x01, 0xD8], .add (.rmReg (.w (.reg .ax) .bx))),
    ([0x0A, 0x07], .or (.regRm (.b (.mem (.based .bx .no)) .al))),
    ([0x13, 0x44, 0x80], .adc (.regRm (.w (.mem (.based .si (.d8 0x80))) .ax))),
    ([0x1C, 0x01], .sbb (.accImm (.b 1))), ([0x25, 0x34, 0x12], .and (.accImm (.w 0x1234))),
    ([0x80, 0xEB, 0x05], .sub (.rmImm (.b (.reg .bl) 5))),
    ([0x81, 0x36, 0x00, 0x05, 0x34, 0x12], .xor (.rmImm (.w (.mem (.direct 0x500)) 0x1234))),
    ([0x82, 0xF8, 0x41], .cmp (.rmImm (.b (.reg .al) 0x41))),
    ([0x83, 0xBA, 0x34, 0x12, 0xFF], .cmp (.rmImm8s (.mem (.based .bpSi (.d16 0x1234))) 0xFF))].all reads := by
  decide
theorem decode_one_operand : [
    ([0x41], Instr.inc (.r16 .cx)), ([0xFE, 0x06, 0x00, 0x05], .inc (.rm (.b (.mem (.direct 0x500))))),
    ([0x4F], .dec (.r16 .di)), ([0xFF, 0xC8], .dec (.rm (.w (.reg .ax)))), ([0xF6, 0xD8], .neg (.b (.reg .al))),
    ([0xF7, 0xD0], .not (.w (.reg .ax))), ([0x84, 0xE3], .test (.rmReg (.b (.reg .bl) .ah))),
    ([0xA8, 0x80], .test (.accImm (.b 0x80))), ([0xA9, 0x34, 0x12], .test (.accImm (.w 0x1234))),
    ([0xF6, 0x01, 0x0F], .test (.rmImm (.b (.mem (.based .bxDi .no)) 0x0F))),
    ([0xF7, 0xC1, 0x34, 0x12], .test (.rmImm (.w (.reg .cx) 0x1234)))].all reads := by decide
theorem decode_moves : [
    ([0x88, 0x2A], Instr.movRmReg (.b (.mem (.based .bpSi .no)) .ch)),
    ([0x8B, 0x83, 0x34, 0x12], .movRegRm (.w (.mem (.based .bpDi (.d16 0x1234))) .ax)),
    ([0xC6, 0x05, 0xAA], .movRmImm (.b (.mem (.based .di .no)) 0xAA)),
    ([0xC7, 0xC0, 0xCD, 0xAB], .movRmImm (.w (.reg .ax) 0xABCD)), ([0xB4, 0x7F], .movRegImm (.b .ah 0x7F)),
    ([0xBC, 0x34, 0x12], .movRegImm (.w .sp 0x1234)), ([0xA0, 0x00, 0x05], .movAccMoffs .byte 0x500),
    ([0xA3, 0xFF, 0xFF], .movMoffsAcc .word 0xFFFF), ([0x8E, 0xD8], .movSregRm .ds (.reg .ax)),
    ([0x8C, 0xC8], .movRmSreg (.reg .ax) .cs), ([0x55], .pushReg .bp), ([0x0E], .pushSreg .cs),
    ([0xFF, 0x36, 0x00, 0x05], .pushRm (.mem (.direct 0x500))), ([0x5C], .popReg .sp), ([0x1F], .popSreg .ds),
    ([0x8F, 0x00], .popRm (.mem (.based .bxSi .no)))].all reads := by decide
theorem decode_exchange : [
    ([0x86, 0xE0], Instr.xchgRmReg (.b (.reg .al) .ah)), ([0x93], .xchgAx .bx), ([0x90], .nop),
    ([0x8D, 0x40, 0x05], .lea .ax (.based .bxSi (.d8 5))), ([0xC5, 0x36, 0x00, 0x04], .lds .si (.direct 0x400)),
    ([0xC4, 0x7E, 0x00], .les .di (.based .bp (.d8 0))), ([0xD7], .xlat), ([0x98], .cbw), ([0x99], .cwd)].all
    reads := by decide
theorem decode_conditional_jumps : [
    ([0x70, 1], Instr.jo 1), ([0x71, 1], .jno 1), ([0x72, 1], .jb 1), ([0x73, 1], .jnb 1), ([0x74, 1], .jz 1),
    ([0x75, 1], .jnz 1), ([0x76, 1], .jbe 1), ([0x77, 1], .ja 1), ([0x78, 1], .js 1), ([0x79, 1], .jns 1),
    ([0x7A, 1], .jp 1), ([0x7B, 1], .jnp 1), ([0x7C, 1], .jl 1), ([0x7D, 1], .jge 1), ([0x7E, 1], .jle 1),
    ([0x7F, 1], .jg 1)].all reads := by decide
theorem decode_jumps_and_calls : [
    ([0xEB, 0xFE], Instr.jmpShort 0xFE), ([0xE9, 0xFD, 0xFF], .jmpNear 0xFFFD),
    ([0xEA, 0x5B, 0xE0, 0x00, 0xF0], .jmpFar 0xE05B 0xF000), ([0xFF, 0xE3], .jmpRm (.reg .bx)),
    ([0xFF, 0x2E, 0x00, 0x05], .jmpMem (.direct 0x500)), ([0xE8, 0x10, 0x00], .callNear 0x10),
    ([0x9A, 0x00, 0x00, 0x00, 0x20], .callFar 0 0x2000), ([0xFF, 0xD4], .callRm (.reg .sp)),
    ([0xFF, 0x1E, 0x00, 0x06], .callMem (.direct 0x600)), ([0xC3], .ret), ([0xC2, 0x04, 0x00], .retImm 4),
    ([0xCB], .retf), ([0xCA, 0x02, 0x00], .retfImm 2), ([0xE2, 0xFE], .loop 0xFE), ([0xE1, 0xF0], .loopz 0xF0),
    ([0xE0, 0xF0], .loopnz 0xF0), ([0xE3, 0x08], .jcxz 8)].all reads := by decide
theorem decode_strings : [
    ([0xA4], Instr.movsb), ([0xA5], .movsw), ([0xA6], .cmpsb), ([0xA7], .cmpsw), ([0xAA], .stosb), ([0xAB], .stosw),
    ([0xAC], .lodsb), ([0xAD], .lodsw), ([0xAE], .scasb), ([0xAF], .scasw), ([0x6C], .insb), ([0x6D], .insw),
    ([0x6E], .outsb), ([0x6F], .outsw)].all reads := by decide
theorem decode_shifts : [
    ([0xD0, 0xC0], Instr.rol (.b (.reg .al)) .one), ([0xD3, 0xCB], .ror (.w (.reg .bx)) .cl),
    ([0xD2, 0xD0], .rcl (.b (.reg .al)) .cl), ([0xD1, 0xD8], .rcr (.w (.reg .ax)) .one),
    ([0xC0, 0xE0, 0x04], .shl (.b (.reg .al)) (.imm 4)), ([0xC1, 0xE8, 0x0F], .shr (.w (.reg .ax)) (.imm 15)),
    ([0xD1, 0x3E, 0x00, 0x05], .sar (.w (.mem (.direct 0x500))) .one)].all reads := by decide
theorem decode_multiply_divide : [
    ([0xF6, 0xE3], Instr.mul (.b (.reg .bl))), ([0xF7, 0xEB], .imul (.w (.reg .bx))),
    ([0x69, 0xC3, 0x00, 0x01], .imulImm16 .ax (.reg .bx) 0x100), ([0x6B, 0xC3, 0xFE], .imulImm8 .ax (.reg .bx) 0xFE),
    ([0xF6, 0xF3], .div (.b (.reg .bl))), ([0xF7, 0xFB], .idiv (.w (.reg .bx)))].all reads := by decide
theorem decode_adjust : [
    ([0x27], Instr.daa), ([0x2F], .das), ([0x37], .aaa), ([0x3F], .aas), ([0xD4, 0x0A], .aam 10),
    ([0xD5, 0x0A], .aad 10)].all reads := by decide
theorem decode_flags_and_ports : [
    ([0xF8], Instr.clc), ([0xF9], .stc), ([0xF5], .cmc), ([0xFC], .cld), ([0xFD], .std), ([0xFA], .cli),
    ([0xFB], .sti), ([0x9F], .lahf), ([0x9E], .sahf), ([0x9C], .pushf), ([0x9D], .popf),
    ([0xE4, 0x21], .inImm .byte 0x21), ([0xED], .inDx .word), ([0xE7, 0x20], .outImm .word 0x20),
    ([0xEE], .outDx .byte)].all reads := by decide
theorem decode_interrupts_and_illegal : [
    ([0xCC], Instr.int3), ([0xCD, 0x21], .int 0x21), ([0xCE], .into), ([0xCF], .iret), ([0xF4], .hlt), ([0xF0], .lock),
    ([0x9B], .wait), ([0xD9, 0x06, 0x00, 0x05], .esc 1 0 (.mem (.direct 0x500))), ([0xDB, 0xE3], .esc 3 4 (.reg .bx)),
    ([0x0F], .illegalOp 0x0F), ([0xFF, 0xFF], .illegalModrm 0xFF 7 (.reg .di)),
    ([0xC6, 0x4F, 0x10], .illegalModrm 0xC6 1 (.mem (.based .bx (.d8 0x10)))),
    ([0x8D, 0xC0], .illegalModrm 0x8D 0 (.reg .ax))].all reads := by decide
theorem decode_ext186 : [
    ([0x60], Instr.pusha), ([0x61], .popa), ([0x62, 0x06, 0x00, 0x05], .bound .ax (.direct 0x500)),
    ([0x68, 0x34, 0x12], .pushImm16 0x1234), ([0x6A, 0x80], .pushImm8 0x80), ([0xC8, 0x08, 0x00, 0x01], .enter 8 1),
    ([0xC9], .leave)].all reads := by decide
theorem decode_prefix_bytes : [
    ([0x26], Instr.segEs), ([0x2E], .segCs), ([0x36], .segSs), ([0x3E], .segDs), ([0xF2], .repne), ([0xF3], .rep)].all
    reads := by decide

/-! ### One step on a small state

Registers 0 but SP = 1000H, segments 0, IP = 100H, flags 0, as spec/95_test_vectors.md Part 2 has them; the vector or the
rule that gives the expected values is named above each test. -/

def r0 : Regs := { Regs.zero with sp := 0x1000 }
def f0 : Flags := .clear
def s0 : SegRegs := ⟨0, 0, 0, 0⟩
/-- The start of a vector, with what its start column changes. -/
def start (regs : Regs := r0) (flags : Flags := f0) (segs : SegRegs := s0) (ip : Word := 0x100) (mem : Memory := [])
    (ro : RoMap := []) (pic : Pic := .reset) (halt trapLatch : Bool := false) : State :=
  { State.reset with
    regs := regs, flags := flags, segs := segs, ip := ip, mem := mem, ro := ro, pic := pic, halt := halt,
    trapLatch := trapLatch }
/-- The bytes placed at CS:IP, one step answers a next state with this property. -/
def becomes (code : List Byte) (s : State) (f : State → Bool) : Bool :=
  match step (s.placeAtIp 0 code) with
  | .next t => f t
  | _ => false

/-- V40.2, R152, R155 -/
theorem test_add_1 :
  becomes [0x04, 0x01] (start (regs := { r0 with ax := 0x007F })) fun t => t.reg .ax == 0x0080 && t.ip == 0x0102
    && !t.flags.cf && !t.flags.pf && t.flags.af && !t.flags.zf && t.flags.sf && t.flags.ofl := by decide
/-- V40.24, R118, R155 -/
theorem test_add_2 :
  becomes [0x83, 0xC3, 0xFF] (start (regs := { r0 with bx := 0x0001 })) fun t => t.reg .bx == 0x0000 &&
    t.ip == 0x0103 && t.flags.cf && t.flags.pf && t.flags.af && t.flags.zf && !t.flags.sf && !t.flags.ofl := by
    decide
/-- V40.12, R150, R156 -/
theorem test_or :
  becomes [0x09, 0x1E, 0x00, 0x05] (start (regs := { r0 with bx := 0x0F00 }) (mem := [(0x500, 0xF0)])) fun t =>
    t.ip == 0x0104 && !t.flags.cf && t.flags.pf && !t.flags.zf && !t.flags.sf && !t.flags.ofl &&
    t.readByte 0x00500 == 0xF0 && t.readByte 0x00501 == 0x0F := by decide
/-- V40.5, R152, R157 -/
theorem test_adc :
  becomes [0x14, 0x00] (start (regs := { r0 with ax := 0x00FF }) (flags := { f0 with cf := true })) fun t =>
    t.reg .ax == 0x0000 && t.ip == 0x0102 && t.flags.cf && t.flags.pf && t.flags.af && t.flags.zf && !t.flags.sf
    && !t.flags.ofl := by decide
/-- V40.11, R154, R159 -/
theorem test_and :
  becomes [0x25, 0x0F, 0x0F] (start (regs := { r0 with ax := 0xF0F0 })
    (flags := { f0 with cf := true, ofl := true, af := true })) fun t => t.reg .ax == 0x0000 && t.ip == 0x0103 &&
    !t.flags.cf && t.flags.pf && t.flags.zf && !t.flags.sf && !t.flags.ofl := by decide
/-- V40.8, R153, R158 -/
theorem test_sbb_1 :
  becomes [0x19, 0xC0] (start (regs := { r0 with ax := 0x1234 }) (flags := { f0 with cf := true })) fun t =>
    t.reg .ax == 0xFFFF && t.ip == 0x0102 && t.flags.cf && t.flags.pf && t.flags.af && !t.flags.zf && t.flags.sf
    && !t.flags.ofl := by decide
/-- V40.26, R153, R158 -/
theorem test_sbb_2 :
  becomes [0x1C, 0x00] (start (regs := { r0 with ax := 0x0000 }) (flags := { f0 with cf := true })) fun t =>
    t.reg .ax == 0x00FF && t.ip == 0x0102 && t.flags.cf && t.flags.pf && t.flags.af && !t.flags.zf && t.flags.sf
    && !t.flags.ofl := by decide
/-- V40.7, R153, R160 -/
theorem test_sub :
  becomes [0x2C, 0x01] (start (regs := { r0 with ax := 0x0080 })) fun t => t.reg .ax == 0x007F && t.ip == 0x0102
    && !t.flags.cf && !t.flags.pf && t.flags.af && !t.flags.zf && !t.flags.sf && t.flags.ofl := by decide
/-- V40.13, R161 -/
theorem test_xor :
  becomes [0x31, 0xC0] (start (regs := { r0 with ax := 0xBEEF }) (flags := { f0 with cf := true })) fun t =>
    t.reg .ax == 0x0000 && t.ip == 0x0102 && !t.flags.cf && t.flags.pf && t.flags.zf && !t.flags.sf &&
    !t.flags.ofl := by decide
/-- V40.10, R162 -/
theorem test_cmp_1 :
  becomes [0x3D, 0x01, 0x00] (start (regs := { r0 with ax := 0x0000 })) fun t => t.ip == 0x0103 && t.flags.cf &&
    t.flags.pf && t.flags.af && !t.flags.zf && t.flags.sf && !t.flags.ofl := by decide
/-- V40.25, R118, R162 -/
theorem test_cmp_2 :
  becomes [0x80, 0x3E, 0x00, 0x05, 0x41] (start (mem := [(0x500, 0x41)])) fun t => t.ip == 0x0105 && !t.flags.cf
    && t.flags.pf && !t.flags.af && t.flags.zf && !t.flags.sf && !t.flags.ofl := by decide
/-- V40.14, R163 -/
theorem test_inc :
  becomes [0x40] (start (regs := { r0 with ax := 0xFFFF }) (flags := { f0 with cf := true })) fun t =>
    t.reg .ax == 0x0000 && t.ip == 0x0101 && t.flags.cf && t.flags.pf && t.flags.af && t.flags.zf && !t.flags.sf
    && !t.flags.ofl := by decide
/-- V40.16, R164 -/
theorem test_dec :
  becomes [0xFE, 0x0E, 0x00, 0x05] (start (mem := [(0x500, 0x80)])) fun t => t.ip == 0x0104 && !t.flags.cf &&
    !t.flags.pf && t.flags.af && !t.flags.zf && !t.flags.sf && t.flags.ofl && t.readByte 0x00500 == 0x7F := by
    decide
/-- V40.18, R165 -/
theorem test_neg :
  becomes [0xF6, 0xD8] (start (regs := { r0 with ax := 0x0080 })) fun t => t.ip == 0x0102 && t.flags.cf &&
    !t.flags.pf && !t.flags.af && !t.flags.zf && t.flags.sf && t.flags.ofl := by decide
/-- V40.21, R166 -/
theorem test_not :
  becomes [0xF7, 0xD0] (start (regs := { r0 with ax := 0x00FF }) (flags := { f0 with cf := true, zf := true }))
    fun t => t.reg .ax == 0xFF00 && t.ip == 0x0102 := by decide
/-- V40.22, R167 -/
theorem test_test_1 :
  becomes [0xA8, 0x80] (start (regs := { r0 with ax := 0x0080 }) (flags := { f0 with cf := true })) fun t =>
    t.ip == 0x0102 && !t.flags.cf && !t.flags.pf && !t.flags.zf && t.flags.sf && !t.flags.ofl := by decide
/-- V40.23, R167 -/
theorem test_test_2 :
  becomes [0xF6, 0x06, 0x00, 0x05, 0x0F] (start (mem := [(0x500, 0xF0)])) fun t => t.ip == 0x0105 && !t.flags.cf
    && t.flags.pf && t.flags.zf && !t.flags.sf && !t.flags.ofl := by decide
/-- V41.1, R200, R113 -/
theorem test_mov_rm_reg :
  becomes [0x89, 0x46, 0x02] (start (regs := { r0 with ax := 0xCAFE, bp := 0x0100 })
    (segs := { s0 with ss := 0x0010, ds := 0x2000 })) fun t => t.ip == 0x0103 && t.readByte 0x00202 == 0xFE &&
    t.readByte 0x00203 == 0xCA := by decide
/-- V41.2, R201, R105 -/
theorem test_mov_reg_rm_1 :
  becomes [0x26, 0x8A, 0x07] (start (regs := { r0 with bx := 0x0010 }) (segs := { s0 with es := 0x0100 })
    (mem := [(0x1010, 0x77)])) fun t => t.reg .ax == 0x0077 && t.ip == 0x0103 := by decide
/-- V41.35, R108 -/
theorem test_mov_reg_rm_2 :
  becomes [0x8A, 0x47, 0x80] (start (regs := { r0 with bx := 0x0580 }) (mem := [(0x500, 0xA5)])) fun t =>
    t.reg .ax == 0x00A5 && t.ip == 0x0103 := by decide
/-- V41.3, R204, R65 -/
theorem test_mov_acc_moffs :
  becomes [0xA1, 0x00, 0x05] (start (mem := [(0x500, 0x34), (0x501, 0x12)])) fun t => t.reg .ax == 0x1234 &&
    t.ip == 0x0103 := by decide
/-- V41.4, R205, R68 -/
theorem test_mov_moffs_acc_1 :
  becomes [0xA3, 0xFF, 0xFF] (start (regs := { r0 with ax := 0xBBAA }) (segs := { s0 with ds := 0x1000 })) fun t
    => t.ip == 0x0103 && t.readByte 0x1FFFF == 0xAA && t.readByte 0x20000 == 0xBB := by decide
/-- V41.5, R61, R68 -/
theorem test_mov_moffs_acc_2 :
  becomes [0xA3, 0xFF, 0xFF] (start (regs := { r0 with ax := 0xBBAA }) (segs := { s0 with ds := 0xF001 })) fun t
    => t.ip == 0x0103 && t.readByte 0x0000F == 0xAA && t.readByte 0x00010 == 0xBB := by decide
/-- V41.6, R64 -/
theorem test_mov_rm_imm_1 :
  becomes [0xC6, 0x06, 0x00, 0x05, 0xAA] (start (mem := [(0x500, 0x11)]) (ro := [0x500])) fun t => t.ip == 0x0105
    := by decide
/-- V41.7, R65 -/
theorem test_mov_rm_imm_2 :
  becomes [0xC7, 0x06, 0x00, 0x05, 0xCD, 0xAB] (start (mem := [(0x500, 0x11), (0x501, 0x22)]) (ro := [0x501])) fun
    t => t.ip == 0x0106 && t.readByte 0x00500 == 0xCD := by decide
/-- V41.8, R206 -/
theorem test_mov_sreg_rm :
  becomes [0x8E, 0xD8] (start (regs := { r0 with ax := 0x1234 })) fun t => t.seg .ds == 0x1234 && t.ip == 0x0102
    := by decide
/-- V41.9, R207 -/
theorem test_mov_rm_sreg :
  becomes [0x8C, 0xC8] (start (regs := { r0 with ax := 0xFFFF }) (segs := { s0 with cs := 0x0040 })) fun t =>
    t.reg .ax == 0x0040 && t.ip == 0x0102 := by decide
/-- V41.11, R203, R21 -/
theorem test_mov_reg_imm :
  becomes [0xB4, 0x7F] (start (regs := { r0 with ax := 0x00FF })) fun t => t.reg .ax == 0x7FFF && t.ip == 0x0102
    := by decide
/-- V41.13, R208 -/
theorem test_push_reg_1 :
  becomes [0x54] start fun t => t.reg .sp == 0x0FFE && t.ip == 0x0101 && t.readByte 0x00FFE == 0xFE &&
    t.readByte 0x00FFF == 0x0F := by decide
/-- V41.17, R71 -/
theorem test_push_reg_2 :
  becomes [0x50] (start (regs := { r0 with ax := 0xA55A, sp := 0x0000 })) fun t => t.reg .sp == 0xFFFE &&
    t.ip == 0x0101 && t.readByte 0x0FFFE == 0x5A && t.readByte 0x0FFFF == 0xA5 := by decide
/-- V41.14, R210 -/
theorem test_push_rm :
  becomes [0xFF, 0xF4] start fun t => t.reg .sp == 0x0FFE && t.ip == 0x0102 && t.readByte 0x00FFE == 0x00 &&
    t.readByte 0x00FFF == 0x10 := by decide
/-- V41.15, R211 -/
theorem test_pop_reg_1 :
  becomes [0x5B] (start (regs := { r0 with sp := 0x0FFE }) (mem := [(0xFFE, 0x78), (0xFFF, 0x56)])) fun t =>
    t.reg .bx == 0x5678 && t.reg .sp == 0x1000 && t.ip == 0x0101 := by decide
/-- V41.16, R211 -/
theorem test_pop_reg_2 :
  becomes [0x5C] (start (regs := { r0 with sp := 0x0FFE }) (mem := [(0xFFF, 0x20)])) fun t => t.reg .sp == 0x2000
    && t.ip == 0x0101 := by decide
/-- V41.18, R213 -/
theorem test_pop_rm :
  becomes [0x8F, 0x06, 0x00, 0x05] (start (regs := { r0 with sp := 0x0FFE })
    (mem := [(0xFFE, 0xEF), (0xFFF, 0xBE)])) fun t => t.reg .sp == 0x1000 && t.ip == 0x0104 &&
    t.readByte 0x00500 == 0xEF && t.readByte 0x00501 == 0xBE := by decide
/-- V41.19, R212 -/
theorem test_pop_sreg :
  becomes [0x1F] (start (regs := { r0 with sp := 0x0FFE }) (mem := [(0xFFF, 0xB8)])) fun t => t.reg .sp == 0x1000
    && t.seg .ds == 0xB800 && t.ip == 0x0101 := by decide
/-- V41.20, R209 -/
theorem test_push_sreg :
  becomes [0x0E] (start (segs := { s0 with cs := 0x0040 })) fun t => t.reg .sp == 0x0FFE && t.ip == 0x0101 &&
    t.readByte 0x00FFE == 0x40 && t.readByte 0x00FFF == 0x00 := by decide
/-- V41.21, R215 -/
theorem test_xchg_ax :
  becomes [0x93] (start (regs := { r0 with ax := 0x1111, bx := 0x2222 })) fun t => t.reg .ax == 0x2222 &&
    t.reg .bx == 0x1111 && t.ip == 0x0101 := by decide
/-- V41.22, R214 -/
theorem test_xchg_1 :
  becomes [0x87, 0x1E, 0x00, 0x05] (start (regs := { r0 with bx := 0x2222 })
    (mem := [(0x500, 0x11), (0x501, 0x11)])) fun t => t.reg .bx == 0x1111 && t.ip == 0x0104 &&
    t.readByte 0x00500 == 0x22 && t.readByte 0x00501 == 0x22 := by decide
/-- V41.23, R214 -/
theorem test_xchg_2 :
  becomes [0x86, 0xE0] (start (regs := { r0 with ax := 0x12AB })) fun t => t.reg .ax == 0xAB12 && t.ip == 0x0102
    := by decide
/-- V41.24, R216 -/
theorem test_nop :
  becomes [0x90] (start (regs := { r0 with ax := 0x1234 })) fun t => t.ip == 0x0101 := by decide
/-- V41.25, R217, R108 -/
theorem test_lea :
  becomes [0x8D, 0x40, 0xFF] (start (regs := { r0 with ax := 0x5555, bx := 0xFFFF, si := 0x0002 })) fun t =>
    t.reg .ax == 0x0000 && t.ip == 0x0103 := by decide
/-- V41.26, R218 -/
theorem test_lds :
  becomes [0xC5, 0x1E, 0x00, 0x05] (start (mem := [(0x500, 0x34), (0x501, 0x12), (0x503, 0xB8)])) fun t =>
    t.reg .bx == 0x1234 && t.seg .ds == 0xB800 && t.ip == 0x0104 := by decide
/-- V41.27, R219 -/
theorem test_les :
  becomes [0xC4, 0x3E, 0x00, 0x05] (start (mem := [(0x500, 0x10), (0x503, 0xA0)])) fun t => t.reg .di == 0x0010 &&
    t.seg .es == 0xA000 && t.ip == 0x0104 := by decide
/-- V41.28, R220 -/
theorem test_xlat :
  becomes [0xD7] (start (regs := { r0 with bx := 0x0500, ax := 0x0003 })
    (mem := [(0x500, 0x30), (0x501, 0x31), (0x502, 0x32), (0x503, 0x33)])) fun t => t.reg .ax == 0x0033 &&
    t.ip == 0x0101 := by decide
/-- V41.29, R221 -/
theorem test_cbw :
  becomes [0x98] (start (regs := { r0 with ax := 0x0080 })) fun t => t.reg .ax == 0xFF80 && t.ip == 0x0101 := by
    decide
/-- V41.30, R222 -/
theorem test_cwd :
  becomes [0x99] (start (regs := { r0 with ax := 0x7FFF, dx := 0xFFFF })) fun t => t.reg .dx == 0x0000 &&
    t.ip == 0x0101 := by decide
/-- V42.3, R250 -/
theorem test_jl :
  becomes [0x7C, 0xFE] (start (flags := { f0 with sf := true, ofl := false })) fun t => t.ip == 0x0100 := by
    decide
/-- V42.4, R250 -/
theorem test_jg :
  becomes [0x7F, 0x05] (start (flags := { f0 with sf := true, ofl := true, zf := false })) fun t => t.ip == 0x0107
    := by decide
/-- V42.5, R250 -/
theorem test_jbe :
  becomes [0x76, 0x05] (start (flags := { f0 with cf := false, zf := false })) fun t => t.ip == 0x0102 := by
    decide
/-- V42.6, R251, R24 -/
theorem test_jmp_short_1 :
  becomes [0xEB, 0x00] (start (ip := 0xFFFE)) fun t => t.ip == 0x0000 := by decide
/-- V42.7, R251 -/
theorem test_jmp_short_2 :
  becomes [0xEB, 0x80] start fun t => t.ip == 0x0082 := by decide
/-- V42.8, R252 -/
theorem test_jmp_near :
  becomes [0xE9, 0x00, 0xFF] start fun t => t.ip == 0x0003 := by decide
/-- V42.9, R253 -/
theorem test_jmp_far :
  becomes [0xEA, 0x00, 0x7C, 0x00, 0x00] (start (segs := { s0 with cs := 0xF000 })) fun t => t.seg .cs == 0x0000
    && t.ip == 0x7C00 := by decide
/-- V42.10, R254 -/
theorem test_jmp_rm :
  becomes [0xFF, 0xE3] (start (regs := { r0 with bx := 0x0200 })) fun t => t.ip == 0x0200 := by decide
/-- V42.11, R255 -/
theorem test_jmp_mem :
  becomes [0xFF, 0x2E, 0x00, 0x05] (start (mem := [(0x501, 0x01), (0x503, 0x20)])) fun t => t.seg .cs == 0x2000 &&
    t.ip == 0x0100 := by decide
/-- V42.12, R256 -/
theorem test_call_near :
  becomes [0xE8, 0xFD, 0x00] start fun t => t.reg .sp == 0x0FFE && t.ip == 0x0200 && t.readByte 0x00FFE == 0x03 &&
    t.readByte 0x00FFF == 0x01 := by decide
/-- V42.13, R257 -/
theorem test_call_far :
  becomes [0x9A, 0x00, 0x02, 0x00, 0x30] (start (segs := { s0 with cs := 0x0010 })) fun t => t.reg .sp == 0x0FFC
    && t.seg .cs == 0x3000 && t.ip == 0x0200 && t.readByte 0x00FFC == 0x05 && t.readByte 0x00FFD == 0x01 &&
    t.readByte 0x00FFE == 0x10 && t.readByte 0x00FFF == 0x00 := by decide
/-- V42.14, R258 -/
theorem test_call_rm :
  becomes [0xFF, 0xD3] (start (regs := { r0 with bx := 0x0300 })) fun t => t.reg .sp == 0x0FFE && t.ip == 0x0300
    && t.readByte 0x00FFE == 0x02 && t.readByte 0x00FFF == 0x01 := by decide
/-- V42.15, R259 -/
theorem test_call_mem :
  becomes [0xFF, 0x1E, 0x00, 0x05] (start (mem := [(0x501, 0x01), (0x503, 0x20)])) fun t => t.reg .sp == 0x0FFC &&
    t.seg .cs == 0x2000 && t.ip == 0x0100 && t.readByte 0x00FFC == 0x04 && t.readByte 0x00FFD == 0x01 &&
    t.readByte 0x00FFE == 0x00 && t.readByte 0x00FFF == 0x00 := by decide
/-- V42.16, R260 -/
theorem test_ret :
  becomes [0xC3] (start (regs := { r0 with sp := 0x0FFE }) (mem := [(0xFFE, 0x03), (0xFFF, 0x01)])) fun t =>
    t.reg .sp == 0x1000 && t.ip == 0x0103 := by decide
/-- V42.17, R261 -/
theorem test_ret_imm :
  becomes [0xC2, 0x04, 0x00] (start (regs := { r0 with sp := 0x0FFE }) (mem := [(0xFFE, 0x03), (0xFFF, 0x01)]))
    fun t => t.reg .sp == 0x1004 && t.ip == 0x0103 := by decide
/-- V42.18, R262 -/
theorem test_retf :
  becomes [0xCB] (start (regs := { r0 with sp := 0x0FFC }) (mem := [(0xFFC, 0x05), (0xFFD, 0x01), (0xFFF, 0x20)]))
    fun t => t.reg .sp == 0x1000 && t.seg .cs == 0x2000 && t.ip == 0x0105 := by decide
/-- V42.19, R263 -/
theorem test_retf_imm :
  becomes [0xCA, 0x02, 0x00] (start (regs := { r0 with sp := 0x0FFC })
    (mem := [(0xFFC, 0x05), (0xFFD, 0x01), (0xFFF, 0x20)])) fun t => t.reg .sp == 0x1002 && t.seg .cs == 0x2000 &&
    t.ip == 0x0105 := by decide
/-- V42.21, R264 -/
theorem test_loop_1 :
  becomes [0xE2, 0xFE] (start (regs := { r0 with cx := 0x0001 })) fun t => t.reg .cx == 0x0000 && t.ip == 0x0102
    := by decide
/-- V42.22, R264 -/
theorem test_loop_2 :
  becomes [0xE2, 0xFE] (start (regs := { r0 with cx := 0x0000 })) fun t => t.reg .cx == 0xFFFF && t.ip == 0x0100
    := by decide
/-- V42.23, R265 -/
theorem test_loopz :
  becomes [0xE1, 0x10] (start (regs := { r0 with cx := 0x0005 }) (flags := { f0 with zf := false })) fun t =>
    t.reg .cx == 0x0004 && t.ip == 0x0102 := by decide
/-- V42.24, R266 -/
theorem test_loopnz :
  becomes [0xE0, 0x10] (start (regs := { r0 with cx := 0x0005 }) (flags := { f0 with zf := false })) fun t =>
    t.reg .cx == 0x0004 && t.ip == 0x0112 := by decide
/-- V42.25, R267 -/
theorem test_jcxz :
  becomes [0xE3, 0x10] (start (regs := { r0 with cx := 0x0000 })) fun t => t.ip == 0x0112 := by decide
/-- V43.1, R302, R300 -/
theorem test_movsw :
  becomes [0xA5] (start (regs := { r0 with si := 0x0500, di := 0x0600 }) (flags := { f0 with df := true })
    (mem := [(0x500, 0x34), (0x501, 0x12)])) fun t => t.reg .si == 0x04FE && t.reg .di == 0x05FE && t.ip == 0x0101
    && t.readByte 0x00600 == 0x34 && t.readByte 0x00601 == 0x12 := by decide
/-- V43.2, R301 -/
theorem test_movsb_1 :
  becomes [0xF3, 0xA4] (start (regs := { r0 with si := 0x0500, di := 0x0600, cx := 0x0003 })
    (mem := [(0x500, 0x11), (0x501, 0x22), (0x502, 0x33)])) fun t => t.reg .cx == 0x0002 && t.reg .si == 0x0501 &&
    t.reg .di == 0x0601 && t.ip == 0x0100 && t.readByte 0x00600 == 0x11 := by decide
/-- V43.4, R301 -/
theorem test_movsb_2 :
  becomes [0xF3, 0xA4] (start (regs := { r0 with si := 0x0500, di := 0x0600, cx := 0x0000 })) fun t =>
    t.ip == 0x0102 := by decide
/-- R303 -/
theorem test_cmpsb :
  becomes [0xF3, 0xA6] (start (regs := { r0 with si := 0x0502, di := 0x0602, cx := 0x0002 })
    (mem := [(0x502, 0x43), (0x602, 0x58)])) fun t => t.reg .cx == 0x0001 && t.reg .si == 0x0503 &&
    t.reg .di == 0x0603 && t.ip == 0x0102 && t.flags.cf && !t.flags.zf := by decide
/-- R303 -/
theorem test_cmpsw :
  becomes [0xA7] (start (regs := { r0 with si := 0x0500, di := 0x0600 })
    (mem := [(0x500, 0x41), (0x501, 0x42), (0x600, 0x41), (0x601, 0x42)])) fun t => t.reg .si == 0x0502 &&
    t.reg .di == 0x0602 && t.ip == 0x0101 && t.flags.zf && !t.flags.cf := by decide
/-- R306 -/
theorem test_scasb :
  becomes [0xF2, 0xAE] (start (regs := { r0 with di := 0x0602, cx := 0x000E })) fun t => t.reg .cx == 0x000D &&
    t.reg .di == 0x0603 && t.ip == 0x0102 && t.flags.zf && !t.flags.cf := by decide
/-- V43.14, R306, R68 -/
theorem test_scasw :
  becomes [0xAF] (start (regs := { r0 with ax := 0x0001, di := 0xFFFF }) (mem := [(0xFFFF, 0x02)])) fun t =>
    t.reg .di == 0x0001 && t.ip == 0x0101 && t.flags.cf && t.flags.pf && t.flags.af && !t.flags.zf && t.flags.sf
    && !t.flags.ofl := by decide
/-- R304 -/
theorem test_stosw :
  becomes [0xF3, 0xAB] (start (regs := { r0 with ax := 0x0720, cx := 0x0002 }) (segs := { s0 with es := 0xB800 }))
    fun t => t.reg .cx == 0x0001 && t.reg .di == 0x0002 && t.ip == 0x0100 && t.readByte 0xB8000 == 0x20 &&
    t.readByte 0xB8001 == 0x07 := by decide
/-- V43.10, R304, R309 -/
theorem test_stosb :
  becomes [0x3E, 0xAA] (start (regs := { r0 with di := 0x0010, ax := 0x005A })
    (segs := { s0 with es := 0x0100, ds := 0x0200 })) fun t => t.reg .di == 0x0011 && t.ip == 0x0102 &&
    t.readByte 0x01010 == 0x5A := by decide
/-- V43.9, R305, R300 -/
theorem test_lodsb :
  becomes [0x26, 0xAC] (start (regs := { r0 with si := 0x0010 }) (segs := { s0 with es := 0x0100, ds := 0x0200 })
    (mem := [(0x1010, 0x77), (0x2010, 0x88)])) fun t => t.reg .ax == 0x0077 && t.reg .si == 0x0011 &&
    t.ip == 0x0102 := by decide
/-- R305 -/
theorem test_lodsw :
  becomes [0xAD] (start (regs := { r0 with si := 0x0500 }) (flags := { f0 with df := true })
    (mem := [(0x500, 0xEF), (0x501, 0xBE)])) fun t => t.reg .ax == 0xBEEF && t.reg .si == 0x04FE && t.ip == 0x0101
    := by decide
/-- V43.12, R307, R611 -/
theorem test_insb :
  becomes [0x6C] (start (regs := { r0 with dx := 0x0300, di := 0x0700 })) fun t => t.reg .di == 0x0701 &&
    t.ip == 0x0101 && t.readByte 0x00700 == 0xFF := by decide
/-- R307 -/
theorem test_insw :
  becomes [0x6D] (start (regs := { r0 with dx := 0x0300, di := 0x0700 })) fun t => t.reg .di == 0x0702 &&
    t.ip == 0x0101 && t.readByte 0x00700 == 0xFF && t.readByte 0x00701 == 0xFF := by decide
/-- V43.13, R308, R573 -/
theorem test_outsb :
  becomes [0x6E] (start (regs := { r0 with dx := 0x0043, si := 0x0500 }) (mem := [(0x500, 0x36)])) fun t =>
    t.reg .si == 0x0501 && t.ip == 0x0101 && t.pit.ch0.access == Access.toggle && !t.pit.ch0.flipHigh := by decide
/-- R308, R556 -/
theorem test_outsw :
  becomes [0x6F] (start (regs := { r0 with dx := 0x0020, si := 0x0500 }) (mem := [(0x500, 0x20), (0x501, 0xFE)])
    (pic := { Pic.reset with isr := 0x05 })) fun t => t.reg .si == 0x0502 && t.ip == 0x0101 && t.pic.isr == 0x04
    && t.pic.imr == 0xFE := by decide
/-- V43.11, R301 -/
theorem test_rep_override :
  becomes [0x26, 0xF3, 0xA4] (start (regs := { r0 with si := 0x0010, di := 0x0020, cx := 0x0002 })
    (segs := { s0 with es := 0x0100 }) (mem := [(0x1010, 0x01), (0x1011, 0x02)])) fun t => t.reg .cx == 0x0001 &&
    t.reg .si == 0x0011 && t.reg .di == 0x0021 && t.ip == 0x0100 && t.readByte 0x01020 == 0x01 := by decide
/-- V44.10, R331 -/
theorem test_rol :
  becomes [0xD0, 0xC0] (start (regs := { r0 with ax := 0x0081 }) (flags := { f0 with zf := true })) fun t =>
    t.reg .ax == 0x0003 && t.ip == 0x0102 && t.flags.cf && !t.flags.pf && !t.flags.af && t.flags.zf && !t.flags.sf
    && t.flags.ofl := by decide
/-- V44.11, R332 -/
theorem test_ror :
  becomes [0xD3, 0xCB] (start (regs := { r0 with bx := 0x8001, cx := 0x0004 })) fun t => t.reg .bx == 0x1800 &&
    t.ip == 0x0102 && !t.flags.cf && !t.flags.pf && !t.flags.af && !t.flags.zf && !t.flags.sf := by decide
/-- V44.12, R333 -/
theorem test_rcl_1 :
  becomes [0xD0, 0xD0] (start (regs := { r0 with ax := 0x0080 }) (flags := { f0 with cf := true })) fun t =>
    t.reg .ax == 0x0001 && t.ip == 0x0102 && t.flags.cf && !t.flags.pf && !t.flags.af && !t.flags.zf &&
    !t.flags.sf && t.flags.ofl := by decide
/-- V44.14, R333 -/
theorem test_rcl_2 :
  becomes [0xD2, 0xD0] (start (regs := { r0 with ax := 0x0055, cx := 0x0009 }) (flags := { f0 with cf := true }))
    fun t => t.ip == 0x0102 && t.flags.cf && !t.flags.pf && !t.flags.af && !t.flags.zf && !t.flags.sf := by decide
/-- V44.13, R334 -/
theorem test_rcr :
  becomes [0xD0, 0xD8] (start (regs := { r0 with ax := 0x0001 }) (flags := { f0 with cf := true })) fun t =>
    t.reg .ax == 0x0080 && t.ip == 0x0102 && t.flags.cf && !t.flags.pf && !t.flags.af && !t.flags.zf &&
    !t.flags.sf && t.flags.ofl := by decide
/-- V44.3, R335, R339 -/
theorem test_shl_1 :
  becomes [0xD3, 0xE0] (start (regs := { r0 with ax := 0x1234, cx := 0x0004 })) fun t => t.reg .ax == 0x2340 &&
    t.ip == 0x0102 && t.flags.cf && !t.flags.pf && !t.flags.zf && !t.flags.sf := by decide
/-- V44.5, R335, R330 -/
theorem test_shl_2 :
  becomes [0xD2, 0xE0] (start (regs := { r0 with ax := 0x0001, cx := 0x0009 })) fun t => t.reg .ax == 0x0000 &&
    t.ip == 0x0102 && !t.flags.cf && t.flags.pf && t.flags.zf && !t.flags.sf := by decide
/-- V44.7, R336 -/
theorem test_shr_1 :
  becomes [0xD0, 0xE8] (start (regs := { r0 with ax := 0x0081 })) fun t => t.reg .ax == 0x0040 && t.ip == 0x0102
    && t.flags.cf && !t.flags.pf && !t.flags.zf && !t.flags.sf && t.flags.ofl := by decide
/-- V44.17, R468, R336 -/
theorem test_shr_2 :
  becomes [0xC1, 0xE8, 0x0F] (start (regs := { r0 with ax := 0x8000 })) fun t => t.reg .ax == 0x0001 &&
    t.ip == 0x0103 && !t.flags.cf && !t.flags.pf && !t.flags.zf && !t.flags.sf := by decide
/-- V44.8, R337 -/
theorem test_sar :
  becomes [0xD0, 0xF8] (start (regs := { r0 with ax := 0x0081 })) fun t => t.reg .ax == 0x00C0 && t.ip == 0x0102
    && t.flags.cf && t.flags.pf && !t.flags.zf && t.flags.sf && !t.flags.ofl := by decide
/-- V44.6, R330 -/
theorem test_shl_zero :
  becomes [0xD2, 0xE0] (start (regs := { r0 with ax := 0x0081, cx := 0x0000 })
    (flags := { f0 with cf := true, zf := true })) fun t => t.ip == 0x0102 && t.flags.cf && !t.flags.pf &&
    !t.flags.af && t.flags.zf && !t.flags.sf && !t.flags.ofl := by decide
/-- V45.1, R360 -/
theorem test_mul_1 :
  becomes [0xF6, 0xE3] (start (regs := { r0 with ax := 0x0010, bx := 0x0010 })) fun t => t.reg .ax == 0x0100 &&
    t.ip == 0x0102 && t.flags.cf && t.flags.ofl := by decide
/-- V45.3, R360 -/
theorem test_mul_2 :
  becomes [0xF7, 0xE0] (start (regs := { r0 with ax := 0xFFFF })) fun t => t.reg .ax == 0x0001 &&
    t.reg .dx == 0xFFFE && t.ip == 0x0102 && t.flags.cf && t.flags.ofl := by decide
/-- V45.5, R361 -/
theorem test_imul_1 :
  becomes [0xF6, 0xEB] (start (regs := { r0 with ax := 0x0040, bx := 0x0002 })) fun t => t.reg .ax == 0x0080 &&
    t.ip == 0x0102 && t.flags.cf && t.flags.ofl := by decide
/-- V45.6, R361 -/
theorem test_imul_2 :
  becomes [0xF7, 0xEB] (start (regs := { r0 with ax := 0x8000, bx := 0xFFFF, dx := 0x1234 })) fun t =>
    t.reg .dx == 0x0000 && t.ip == 0x0102 && t.flags.cf && t.flags.ofl := by decide
/-- V45.7, R362 -/
theorem test_div_1 :
  becomes [0xF6, 0xF3] (start (regs := { r0 with ax := 0x000A, bx := 0x0003 })) fun t => t.reg .ax == 0x0103 &&
    t.ip == 0x0102 := by decide
/-- V45.9, R362, R364 -/
theorem test_div_2 :
  becomes [0xF6, 0xF3] (start (regs := { r0 with ax := 0x0100, bx := 0x0001 }) (mem := [(0x1, 0x03)])) fun t =>
    t.reg .sp == 0x0FFA && t.ip == 0x0300 && t.readByte 0x00FFA == 0x02 && t.readByte 0x00FFB == 0x01 &&
    t.readByte 0x00FFC == 0x00 && t.readByte 0x00FFD == 0x00 && t.readByte 0x00FFE == 0x02 &&
    t.readByte 0x00FFF == 0xF0 := by decide
/-- V45.13, R363 -/
theorem test_idiv_1 :
  becomes [0xF6, 0xFB] (start (regs := { r0 with ax := 0xFF80, bx := 0x0001 })) fun t => t.reg .ax == 0x0080 &&
    t.ip == 0x0102 := by decide
/-- V45.14, R363, R364 -/
theorem test_idiv_2 :
  becomes [0xF6, 0xFB] (start (regs := { r0 with ax := 0xFF80, bx := 0x00FF }) (mem := [(0x1, 0x03)])) fun t =>
    t.reg .sp == 0x0FFA && t.ip == 0x0300 && t.readByte 0x00FFA == 0x02 && t.readByte 0x00FFB == 0x01 &&
    t.readByte 0x00FFC == 0x00 && t.readByte 0x00FFD == 0x00 && t.readByte 0x00FFE == 0x02 &&
    t.readByte 0x00FFF == 0xF0 := by decide
/-- V46.4, R380 -/
theorem test_daa :
  becomes [0x27] (start (regs := { r0 with ax := 0x009F }) (flags := { f0 with af := true })) fun t =>
    t.reg .ax == 0x0005 && t.ip == 0x0101 && t.flags.cf && t.flags.pf && t.flags.af && !t.flags.zf && !t.flags.sf
    := by decide
/-- V46.5, R381 -/
theorem test_das :
  becomes [0x2F] (start (regs := { r0 with ax := 0x0003 }) (flags := { f0 with af := true })) fun t =>
    t.reg .ax == 0x00FD && t.ip == 0x0101 && t.flags.cf && !t.flags.pf && t.flags.af && !t.flags.zf && t.flags.sf
    := by decide
/-- V46.9, R382 -/
theorem test_aaa :
  becomes [0x37] (start (regs := { r0 with ax := 0x00FA })) fun t => t.reg .ax == 0x0100 && t.ip == 0x0101 &&
    t.flags.cf && t.flags.af := by decide
/-- V46.11, R383 -/
theorem test_aas :
  becomes [0x3F] (start (regs := { r0 with ax := 0x0003 }) (flags := { f0 with af := true })) fun t =>
    t.reg .ax == 0xFF0D && t.ip == 0x0101 && t.flags.cf && t.flags.af := by decide
/-- V46.13, R384 -/
theorem test_aam_1 :
  becomes [0xD4, 0x0A] (start (regs := { r0 with ax := 0x003F })) fun t => t.reg .ax == 0x0603 && t.ip == 0x0102
    && t.flags.pf && !t.flags.zf && !t.flags.sf := by decide
/-- V46.15, R384, R364 -/
theorem test_aam_2 :
  becomes [0xD4, 0x00] (start (regs := { r0 with ax := 0x1234 }) (mem := [(0x1, 0x03)])) fun t =>
    t.reg .sp == 0x0FFA && t.ip == 0x0300 && t.readByte 0x00FFA == 0x02 && t.readByte 0x00FFB == 0x01 &&
    t.readByte 0x00FFC == 0x00 && t.readByte 0x00FFD == 0x00 && t.readByte 0x00FFE == 0x02 &&
    t.readByte 0x00FFF == 0xF0 := by decide
/-- V46.17, R385 -/
theorem test_aad :
  becomes [0xD5, 0x0A] (start (regs := { r0 with ax := 0xFFFF })) fun t => t.reg .ax == 0x00F5 && t.ip == 0x0102
    && t.flags.pf && !t.flags.zf && t.flags.sf := by decide
/-- V47.1, R400 -/
theorem test_clc :
  becomes [0xF8] (start (flags := { f0 with cf := true })) fun t => t.ip == 0x0101 && !t.flags.cf := by decide
/-- R401 -/
theorem test_stc :
  becomes [0xF9] (start (flags := { f0 with cf := false })) fun t => t.flags.cf && t.ip == 0x0101 := by decide
/-- V47.2, R402 -/
theorem test_cmc :
  becomes [0xF5] (start (flags := { f0 with cf := false })) fun t => t.ip == 0x0101 && t.flags.cf := by decide
/-- R403 -/
theorem test_cld :
  becomes [0xFC] (start (flags := { f0 with df := true })) fun t => !t.flags.df && t.ip == 0x0101 := by decide
/-- V47.3, R404 -/
theorem test_std :
  becomes [0xFD] start fun t => t.ip == 0x0101 && t.flags.df := by decide
/-- V47.4, R406 -/
theorem test_sti :
  becomes [0xFB] start fun t => t.ip == 0x0101 && t.flags.ifl := by decide
/-- V47.5, R405 -/
theorem test_cli :
  becomes [0xFA] (start (flags := { f0 with ifl := true })) fun t => t.ip == 0x0101 && !t.flags.ifl := by decide
/-- V47.6, R407, R27 -/
theorem test_lahf :
  becomes [0x9F] (start (regs := { r0 with ax := 0x0000 })
    (flags := { f0 with sf := true, zf := true, af := true, pf := true, cf := true })) fun t =>
    t.reg .ax == 0xD700 && t.ip == 0x0101 := by decide
/-- V47.8, R408 -/
theorem test_sahf :
  becomes [0x9E] (start (regs := { r0 with ax := 0xFF00 }) (flags := { f0 with ofl := true })) fun t =>
    t.ip == 0x0101 && t.flags.cf && t.flags.pf && t.flags.af && t.flags.zf && t.flags.sf && t.flags.ofl := by
    decide
/-- V47.9, R409, R27 -/
theorem test_pushf :
  becomes [0x9C] (start (flags := { f0 with cf := true, zf := true, ifl := true })) fun t => t.reg .sp == 0x0FFE
    && t.ip == 0x0101 && t.readByte 0x00FFE == 0x43 && t.readByte 0x00FFF == 0xF2 := by decide
/-- V47.10, R410, R28 -/
theorem test_popf :
  becomes [0x9D] (start (regs := { r0 with sp := 0x0FFE }) (mem := [(0xFFE, 0xFF), (0xFFF, 0xFF)])) fun t =>
    t.reg .sp == 0x1000 && t.ip == 0x0101 && t.flags.cf && t.flags.pf && t.flags.af && t.flags.zf && t.flags.sf &&
    t.flags.tf && t.flags.ifl && t.flags.df && t.flags.ofl := by decide
/-- V47.12, R411, R611 -/
theorem test_in_imm_1 :
  becomes [0xE4, 0x60] (start (regs := { r0 with ax := 0x1234 })) fun t => t.reg .ax == 0x12FF && t.ip == 0x0102
    := by decide
/-- V47.14, R411, R613 -/
theorem test_in_imm_2 :
  becomes [0xE5, 0x20] (start (pic := { Pic.reset with irr := 0x05, imr := 0xF8 })) fun t => t.reg .ax == 0xF805
    && t.ip == 0x0102 := by decide
/-- V47.15, R412, R559 -/
theorem test_in_dx_1 :
  becomes [0xEC] (start (regs := { r0 with dx := 0x0021 }) (pic := { Pic.reset with irr := 0x05, imr := 0xF8 }))
    fun t => t.reg .ax == 0x00F8 && t.ip == 0x0101 := by decide
/-- R412 -/
theorem test_in_dx_2 :
  becomes [0xED] (start (regs := { r0 with dx := 0x0300, ax := 0x0000 })) fun t => t.reg .ax == 0xFFFF &&
    t.ip == 0x0101 := by decide
/-- V47.16, R413, R556 -/
theorem test_out_imm_1 :
  becomes [0xE6, 0x21] (start (regs := { r0 with ax := 0x00FE })) fun t => t.ip == 0x0102 && t.pic.imr == 0xFE :=
    by decide
/-- R413, R613 -/
theorem test_out_imm_2 :
  becomes [0xE7, 0x20] (start (regs := { r0 with ax := 0xFE20 }) (pic := { Pic.reset with isr := 0x05 })) fun t =>
    t.ip == 0x0102 && t.pic.isr == 0x04 && t.pic.imr == 0xFE := by decide
/-- R414, R557 -/
theorem test_out_dx_1 :
  becomes [0xEE] (start (regs := { r0 with dx := 0x0020, ax := 0x0020 }) (pic := { Pic.reset with isr := 0x05 }))
    fun t => t.ip == 0x0101 && t.pic.isr == 0x04 := by decide
/-- R414, R613 -/
theorem test_out_dx_2 :
  becomes [0xEF] (start (regs := { r0 with dx := 0x0020, ax := 0xFE20 }) (pic := { Pic.reset with isr := 0x05 }))
    fun t => t.ip == 0x0101 && t.pic.isr == 0x04 && t.pic.imr == 0xFE := by decide
/-- V48.1, R431, R510 -/
theorem test_int_1 :
  becomes [0xCD, 0x21] (start (flags := { f0 with cf := true, ifl := true, tf := false })
    (segs := { s0 with cs := 0x0010 }) (mem := [(0x85, 0x02), (0x87, 0x30)])) fun t => t.reg .sp == 0x0FFA &&
    t.seg .cs == 0x3000 && t.ip == 0x0200 && !t.flags.ifl && t.readByte 0x00FFA == 0x02 &&
    t.readByte 0x00FFB == 0x01 && t.readByte 0x00FFC == 0x10 && t.readByte 0x00FFD == 0x00 &&
    t.readByte 0x00FFE == 0x03 && t.readByte 0x00FFF == 0xF2 := by decide
/-- V60.14, R510, R71 -/
theorem test_int_2 :
  becomes [0xCD, 0x21] (start (regs := { r0 with sp := 0x0004 }) (flags := { f0 with cf := true })
    (mem := [(0x85, 0x02), (0x87, 0x30)])) fun t => t.reg .sp == 0xFFFE && t.seg .cs == 0x3000 && t.ip == 0x0200
    && t.readByte 0x00000 == 0x00 && t.readByte 0x00001 == 0x00 && t.readByte 0x00002 == 0x03 &&
    t.readByte 0x00003 == 0xF0 && t.readByte 0x0FFFE == 0x02 && t.readByte 0x0FFFF == 0x01 := by decide
/-- V48.2, R430 -/
theorem test_int3 :
  becomes [0xCC] (start (mem := [(0xD, 0x04)])) fun t => t.reg .sp == 0x0FFA && t.ip == 0x0400 &&
    t.readByte 0x00FFA == 0x01 && t.readByte 0x00FFB == 0x01 && t.readByte 0x00FFC == 0x00 &&
    t.readByte 0x00FFD == 0x00 && t.readByte 0x00FFE == 0x02 && t.readByte 0x00FFF == 0xF0 := by decide
/-- V48.3, R432 -/
theorem test_into_1 :
  becomes [0xCE] (start (flags := { f0 with ofl := false })) fun t => t.ip == 0x0101 := by decide
/-- V48.4, R432 -/
theorem test_into_2 :
  becomes [0xCE] (start (flags := { f0 with ofl := true }) (mem := [(0x11, 0x05)])) fun t => t.reg .sp == 0x0FFA
    && t.ip == 0x0500 && t.readByte 0x00FFA == 0x01 && t.readByte 0x00FFB == 0x01 && t.readByte 0x00FFC == 0x00 &&
    t.readByte 0x00FFD == 0x00 && t.readByte 0x00FFE == 0x02 && t.readByte 0x00FFF == 0xF8 := by decide
/-- V48.5, R433 -/
theorem test_iret :
  becomes [0xCF] (start (regs := { r0 with sp := 0x0FFA })
    (mem := [(0xFFA, 0x02), (0xFFB, 0x01), (0xFFC, 0x10), (0xFFE, 0x03), (0xFFF, 0xF2)])) fun t =>
    t.reg .sp == 0x1000 && t.seg .cs == 0x0010 && t.ip == 0x0102 && t.flags.cf && t.flags.ifl := by decide
/-- V48.6, R437 -/
theorem test_hlt :
  becomes [0xF4] start fun t => t.ip == 0x0101 && t.halt := by decide
/-- V48.7, R438 -/
theorem test_lock :
  becomes [0xF0] start fun t => t.ip == 0x0101 := by decide
/-- V48.8, R439 -/
theorem test_wait :
  becomes [0x9B] start fun t => t.ip == 0x0101 := by decide
/-- V48.9, R440 -/
theorem test_esc :
  becomes [0xD9, 0x06, 0x00, 0x05] start fun t => t.ip == 0x0104 := by decide
/-- V49.1, R461 -/
theorem test_pusha :
  becomes [0x60] (start
    (regs := { r0 with ax := 0x0001, cx := 0x0002, dx := 0x0003, bx := 0x0004, sp := 0x0100, bp := 0x0005, si := 0x0006, di := 0x0007 }))
    fun t => t.reg .sp == 0x00F0 && t.ip == 0x0101 && t.readByte 0x000F0 == 0x07 && t.readByte 0x000F1 == 0x00 &&
    t.readByte 0x000F2 == 0x06 && t.readByte 0x000F3 == 0x00 && t.readByte 0x000F4 == 0x05 &&
    t.readByte 0x000F5 == 0x00 && t.readByte 0x000F6 == 0x00 && t.readByte 0x000F7 == 0x01 &&
    t.readByte 0x000F8 == 0x04 && t.readByte 0x000F9 == 0x00 && t.readByte 0x000FA == 0x03 &&
    t.readByte 0x000FB == 0x00 && t.readByte 0x000FC == 0x02 && t.readByte 0x000FD == 0x00 &&
    t.readByte 0x000FE == 0x01 && t.readByte 0x000FF == 0x00 := by decide
/-- V49.2, R462 -/
theorem test_popa :
  becomes [0x61] (start (regs := { r0 with sp := 0x00F0 })
    (mem := [(0xF0, 0x07), (0xF2, 0x06), (0xF4, 0x05), (0xF6, 0xEE), (0xF7, 0xEE), (0xF8, 0x04), (0xFA, 0x03), (0xFC, 0x02), (0xFE, 0x01)]))
    fun t => t.reg .ax == 0x0001 && t.reg .cx == 0x0002 && t.reg .dx == 0x0003 && t.reg .bx == 0x0004 &&
    t.reg .sp == 0x0100 && t.reg .bp == 0x0005 && t.reg .si == 0x0006 && t.reg .di == 0x0007 && t.ip == 0x0101 :=
    by decide
/-- V49.3, R464 -/
theorem test_push_imm16 :
  becomes [0x68, 0x34, 0x12] start fun t => t.reg .sp == 0x0FFE && t.ip == 0x0103 && t.readByte 0x00FFE == 0x34 &&
    t.readByte 0x00FFF == 0x12 := by decide
/-- V49.4, R465 -/
theorem test_push_imm8 :
  becomes [0x6A, 0x80] start fun t => t.reg .sp == 0x0FFE && t.ip == 0x0102 && t.readByte 0x00FFE == 0x80 &&
    t.readByte 0x00FFF == 0xFF := by decide
/-- V49.5, R466 -/
theorem test_imul_imm16 :
  becomes [0x69, 0xC3, 0x00, 0x01] (start (regs := { r0 with ax := 0x5555, bx := 0x0100 })) fun t =>
    t.reg .ax == 0x0000 && t.ip == 0x0104 && t.flags.cf && t.flags.ofl := by decide
/-- V49.6, R467 -/
theorem test_imul_imm8 :
  becomes [0x6B, 0xC3, 0xFE] (start (regs := { r0 with bx := 0x0003 })) fun t => t.reg .ax == 0xFFFA &&
    t.ip == 0x0103 && !t.flags.cf && !t.flags.ofl := by decide
/-- V49.7, R469 -/
theorem test_enter_1 :
  becomes [0xC8, 0x08, 0x00, 0x00] (start (regs := { r0 with sp := 0x0100, bp := 0x0200 })) fun t =>
    t.reg .sp == 0x00F6 && t.reg .bp == 0x00FE && t.ip == 0x0104 && t.readByte 0x000FE == 0x00 &&
    t.readByte 0x000FF == 0x02 := by decide
/-- V49.8, R469 -/
theorem test_enter_2 :
  becomes [0xC8, 0x04, 0x00, 0x01] (start (regs := { r0 with sp := 0x0100, bp := 0x0200 })) fun t =>
    t.reg .sp == 0x00F8 && t.reg .bp == 0x00FE && t.ip == 0x0104 && t.readByte 0x000FC == 0xFE &&
    t.readByte 0x000FD == 0x00 && t.readByte 0x000FE == 0x00 && t.readByte 0x000FF == 0x02 := by decide
/-- V49.9, R470 -/
theorem test_leave :
  becomes [0xC9] (start (regs := { r0 with sp := 0x00F6, bp := 0x00FE }) (mem := [(0xFF, 0x02)])) fun t =>
    t.reg .sp == 0x0100 && t.reg .bp == 0x0200 && t.ip == 0x0101 := by decide
/-- V49.10, R463 -/
theorem test_bound_1 :
  becomes [0x62, 0x06, 0x00, 0x05] (start (regs := { r0 with ax := 0x0005 })
    (mem := [(0x15, 0x07), (0x502, 0x04)])) fun t => t.reg .sp == 0x0FFA && t.ip == 0x0700 &&
    t.readByte 0x00FFA == 0x04 && t.readByte 0x00FFB == 0x01 && t.readByte 0x00FFC == 0x00 &&
    t.readByte 0x00FFD == 0x00 && t.readByte 0x00FFE == 0x02 && t.readByte 0x00FFF == 0xF0 := by decide
/-- V49.11, R463 -/
theorem test_bound_2 :
  becomes [0x62, 0x06, 0x00, 0x05] (start (regs := { r0 with ax := 0x0004 }) (mem := [(0x502, 0x04)])) fun t =>
    t.ip == 0x0104 := by decide
/-- V60.1, R502, R510 -/
theorem test_trap :
  becomes [0x90] (start (flags := { f0 with tf := true }) (mem := [(0x5, 0x03)]) (trapLatch := true)) fun t =>
    t.reg .sp == 0x0FFA && t.ip == 0x0300 && !t.flags.tf && !t.trapLatch && t.readByte 0x00FFA == 0x00 &&
    t.readByte 0x00FFB == 0x01 && t.readByte 0x00FFC == 0x00 && t.readByte 0x00FFD == 0x00 &&
    t.readByte 0x00FFE == 0x02 && t.readByte 0x00FFF == 0xF1 := by decide
/-- V60.2, R502 -/
theorem test_trap_latch :
  becomes [0x90] (start (flags := { f0 with tf := true }) (trapLatch := false)) fun t => t.ip == 0x0101 &&
    t.trapLatch := by decide
/-- V60.4, R503, R554 -/
theorem test_wake :
  becomes [0x90] (start (flags := { f0 with ifl := true }) (mem := [(0x21, 0x02)])
    (pic := { Pic.reset with irr := 0x01, imr := 0x00, icw2 := 0x08 }) (halt := true)) fun t =>
    t.reg .sp == 0x0FFA && t.ip == 0x0200 && !t.flags.ifl && !t.halt && t.readByte 0x00FFA == 0x00 &&
    t.readByte 0x00FFB == 0x01 && t.readByte 0x00FFC == 0x00 && t.readByte 0x00FFD == 0x00 &&
    t.readByte 0x00FFE == 0x02 && t.readByte 0x00FFF == 0xF2 && t.pic.irr == 0x00 && t.pic.isr == 0x01 := by
    decide
/-- V60.5, R503 -/
theorem test_pending :
  becomes [0x90] (start (flags := { f0 with ifl := false })
    (pic := { Pic.reset with irr := 0x01, imr := 0x00, icw2 := 0x08 })) fun t => t.ip == 0x0101 &&
    t.pic.irr == 0x01 && t.pic.isr == 0x00 := by decide
/-- V60.6, R552 -/
theorem test_masked :
  becomes [0x90] (start (flags := { f0 with ifl := true })
    (pic := { Pic.reset with irr := 0x01, imr := 0x01, icw2 := 0x08 })) fun t => t.ip == 0x0101 &&
    t.pic.irr == 0x01 && t.pic.isr == 0x00 := by decide
/-- V60.10, R504, R645 -/
theorem test_halted :
  becomes [0x90] (start (flags := { f0 with ifl := false })
    (pic := { Pic.reset with irr := 0x01, imr := 0x00, icw2 := 0x08 }) (halt := true)) fun t => t.ip == 0x0100 :=
    by decide

/-! ### Conditional jumps (R250): each taken and not taken -/

/-- The table of R250: one flag setting that takes each jump. -/
theorem test_jumps_taken :
    [(0x70, { f0 with ofl := true }), (0x71, f0), (0x72, { f0 with cf := true }), (0x73, f0),
     (0x74, { f0 with zf := true }), (0x75, f0), (0x76, { f0 with zf := true }), (0x77, f0),
     (0x78, { f0 with sf := true }), (0x79, f0), (0x7A, { f0 with pf := true }), (0x7B, f0),
     (0x7C, { f0 with sf := true }), (0x7D, { f0 with sf := true, ofl := true }), (0x7E, { f0 with ofl := true }),
     (0x7F, { f0 with sf := true, ofl := true })].all
      (fun p => becomes [p.1, 0x10] (start (flags := p.2)) fun t => t.ip == 0x112) = true := by decide

/-- The table of R250: one flag setting that does not take each jump. -/
theorem test_jumps_not_taken :
    [(0x70, f0), (0x71, { f0 with ofl := true }), (0x72, f0), (0x73, { f0 with cf := true }),
     (0x74, f0), (0x75, { f0 with zf := true }), (0x76, f0), (0x77, { f0 with cf := true }),
     (0x78, f0), (0x79, { f0 with sf := true }), (0x7A, f0), (0x7B, { f0 with pf := true }),
     (0x7C, { f0 with sf := true, ofl := true }), (0x7D, { f0 with ofl := true }),
     (0x7E, { f0 with sf := true, ofl := true }), (0x7F, { f0 with zf := true, sf := true, ofl := true })].all
      (fun p => becomes [p.1, 0x10] (start (flags := p.2)) fun t => t.ip == 0x102) = true := by decide

/-! ### Devices, reset (spec/95_test_vectors.md) -/

/-- V61.4 -/
theorem test_pic_initialisation :
    (([(0x20, 0x10), (0x21, 0x08), (0x21, 0x00), (0x21, 0xAA)] : List (Word × Byte)).foldl
      (fun s p => s.outByte p.1 p.2) start).pic = { Pic.reset with icw1 := 0x10, icw2 := 0x08, imr := 0xAA } := by
  decide
/-- V61.10 -/
theorem test_eoi_catch_up :
    (State.outByte (start (pic := { Pic.reset with isr := 1, catchup := 3 })) 0x20 0x20).pic
      = { Pic.reset with irr := 1 } := by decide
/-- V61.16 -/
theorem test_vector_truncated :
    ((Pic.doirq { Pic.reset with icw2 := 0xFE } 5).vector, (Pic.doirq { Pic.reset with icw2 := 0xFE } 5).acknowledged)
      = (0x03, { Pic.reset with icw2 := 0xFE, isr := 0x20 }) := by decide
/-- V61.25 -/
theorem test_pit_flip_flop :
    (([(0x43, 0x36), (0x40, 0x9C), (0x43, 0x36), (0x40, 0x10), (0x40, 0x27)] : List (Word × Byte)).foldl
      (fun s p => s.outByte p.1 p.2) start).pit.ch0
      = { PitChannel.reset with reload := 0x2710, access := .toggle, active := true } := by decide
/-- V61.40 -/
theorem test_dma_programming :
    (([(0x0C, 0x00), (0x02, 0x00), (0x02, 0x40), (0x03, 0xFF), (0x03, 0x0F), (0x83, 0x02), (0x0B, 0x59), (0x0A, 0x01)] :
        List (Word × Byte)).foldl (fun s p => s.outByte p.1 p.2) start).dma
      = { Dma.reset with
          ch1 := { DmaChannel.reset with
            page := 2, address := 0x4000, reload := 0x0FFF, autoinit := true, masked := false } } := by decide
/-- V61.46: a descending channel gives two bytes and then the sentinel -/
theorem test_dma_read :
    let s := (start (mem := [(0x23FFF, 0xCC), (0x24000, 0xAA)])).setDma { Dma.reset with
      ch1 := { DmaChannel.reset with page := 2, address := 0x4000, reload := 1, descend := true, masked := false } }
    (s.dmaByte 1, (s.dmaRead 1).dmaByte 1, ((s.dmaRead 1).dmaRead 1).dmaByte 1) = (0xAA, 0xCC, 0x80) := by decide
/-- V70.2 -/
theorem test_first_instruction_after_reset :
    (match step (State.reset.loadImage 0xFFFF0 true [0xEA, 0x5B, 0xE0, 0x00, 0xF0]) with
      | .next t => t.seg .cs == 0xF000 && t.ip == 0xE05B
      | _ => false) = true := by decide

/-- V70.4: no image, or one without a byte -/
theorem test_boot_refused_without_image :
    State.boot .zero [] [] = .refused .noImage ∧ State.boot .zero [] [⟨0xF0000, true, []⟩] = .refused .noImage :=
  ⟨rfl, rfl⟩
/-- V70.2: the start with one image, and its first instruction -/
theorem test_boot :
    (match State.boot .zero [] [⟨0xFFFF0, true, [0xEA, 0x5B, 0xE0, 0x00, 0xF0]⟩] with
      | .next s => (match step s with | .next t => t.seg .cs == 0xF000 && t.ip == 0xE05B | _ => false)
      | _ => false) = true := by decide
/-- R576: the period is longest at reload 0 -/
theorem test_pit_period : PitChannel.reset.period = 65536 / 1193182 := by
  norm_num [PitChannel.period, PitChannel.eff, PitChannel.reset, Config.pitClockHz]

/-! ### Witnesses: for each obligation with hypotheses, concrete states and operands that meet them -/

theorem next_of_becomes {code : List Byte} {s : State} {f : State → Bool} (h : becomes code s f = true) :
    ∃ t, step (s.placeAtIp 0 code) = .next t ∧ f t = true := by
  unfold becomes at h
  split at h
  · exact ⟨_, ‹_›, h⟩
  · cases h

theorem bytes_of_fetch {s : State} {l : List Byte} {k : Nat} (h : s.fetchBytes k l.length = l) {j : Nat} {b : Byte}
    (hj : l[j]? = some b) : s.fetchByte (k + j) = b := by
  induction l generalizing j k with
  | nil => simp at hj
  | cons a l ih =>
    simp only [List.length_cons, State.fetchBytes, List.cons.injEq] at h
    cases j with
    | zero => simpa [h.1] using hj
    | succ j => rw [show k + (j + 1) = (k + 1) + j by omega]; exact ih h.2 (by simpa using hj)

theorem bytesAtIp_of_fetch {s : State} {l : List Byte} (he : s.events = [])
    (h : s.fetchBytes 0 l.length = l) : s.boundary.bytesAtIp l := by
  intro k b hk
  rw [show s.boundary = s by simp only [State.boundary, he], ← Nat.zero_add k]
  exact bytes_of_fetch h hk

theorem executes_of_quiet {s : State} (he : s.events = []) (ht : s.trapLatch = false) (hi : s.interruptDue = false)
    (hh : s.halt = false) : s.Executes := by
  have hb : s.boundary = s := by simp only [State.boundary, he]
  exact ⟨by rw [hb]; exact ht, by rw [hb]; exact hi, by rw [hb]; exact hh⟩

/-- A state with a read-only byte, a byte of memory, and a code byte NOP. -/
def small : State := (start (mem := [(0x500, 0x11)]) (ro := [0x500])).placeAtIp 0 [0x90]

theorem small_inv : small.Inv :=
  ⟨by decide, by decide, by unfold Dma.bounded DmaChannel.bounded; decide⟩

/-- O2 -/
theorem witness_ResetMeetsInvariant :
    Memory.wf [(0, 0x11), (0xFFFFF, 0x22)] = true ∧ RoMap.wf [0, 0xFFFFF] = true := by decide
/-- O3, O4: a step that tries to write the read-only byte 500H (V41.6) -/
theorem witness_StepKeepsInvariant : ∃ s t : State, s.Inv ∧ step s = .next t ∧ s.ro.has 0x500 = true := by
  obtain ⟨t, ht, -⟩ := next_of_becomes test_mov_rm_imm_1
  exact ⟨_, t, ⟨by decide, by decide, by unfold Dma.bounded DmaChannel.bounded; decide⟩, ht, by decide⟩
/-- O5: an image that wraps at the top of memory; the byte after it and the byte before it are outside it -/
theorem witness_LoadImageStores :
    small.mem.wf = true ∧ small.ro.wf = true ∧ [0x11#8, 0x22#8].length ≤ Config.memSize ∧
    [0x11#8, 0x22#8][1]? = some 0x22#8 ∧ 2 ≤ ((1 : Addr) - 0xFFFFF).toNat ∧ 2 ≤ ((0xFFFFE : Addr) - 0xFFFFF).toNat := by
  decide
/-- O5, the start: images without bytes, and a list with one byte -/
theorem witness_boot : (∀ x ∈ [(⟨0, false, []⟩ : Image)], x.bytes = []) ∧
    ∃ x ∈ [(⟨0, false, []⟩ : Image), ⟨0xFFFFF, true, [0x11]⟩], x.bytes ≠ [] := by decide
/-- O6 -/
theorem witness_DecodeOfEncode : Instr.wellFormedWith false .nop = true ∧
    Instr.wellFormedWith true (.bound .ax (.based .bp (.d8 0xFF))) = true := by decide
/-- O7 -/
theorem witness_DecodingIsTotal : maxInstrBytes ≤ [0xF7#8, 0x84#8, 0x34#8, 0x12#8, 0x78#8, 0x56#8].length := by decide
/-- O9: a ModRM byte of each mod, with the immediate bytes of each clause, and the illegal encodings -/
theorem witness_OpcodeRows :
    decodeModrm [0xD8, 1] = .ok (3, .reg 0, [1]) ∧ decodeModrm [0x06, 0x00, 0x05, 1] = .ok (0, .mem (.direct 0x500), [1]) ∧
    decodeModrm [0x46, 0xFE, 1, 2] = .ok (0, .mem (.based .bp (.d8 0xFE)), [1, 2]) ∧
    decodeModrm [0xBF, 0x34, 0x12, 1, 2] = .ok (7, .mem (.based .bx (.d16 0x1234)), [1, 2]) ∧
    illegalFirstByte true 0x0F = true ∧ illegalFirstByte false 0x60 = true ∧ illegalSecondByte true 0xFF 7 false = true ∧
    illegalSecondByte true 0x8D 0 true = true ∧ decodeModrm [0xC0] = .ok (0, .reg 0, []) :=
  ⟨rfl, rfl, rfl, rfl, by decide, by decide, by decide, by decide, rfl⟩
/-- O10: an instruction that wraps from IP = FFFFH to 0 -/
theorem witness_StepRunsDecodedInstruction : ∃ (s : State) (i : Instr), s.Executes ∧ i.wellFormed = true ∧
    i.isPrefix = false ∧ s.boundary.bytesAtIp (encode i) :=
  ⟨(start (ip := 0xFFFF)).placeAtIp 0 [0xEB, 0x10], .jmpShort 0x10,
    executes_of_quiet (by decide) (by decide) (by decide) (by decide), by decide, by decide,
    bytesAtIp_of_fetch (by decide) (by decide)⟩
/-- O11: two prefixes of one kind and one of the other -/
theorem witness_PrefixesThenInstruction : ∃ (s : State) (ps : List Instr) (i : Instr), s.Executes ∧
    (∀ p ∈ ps, p.isPrefix = true) ∧ ps.length < Config.prefixBound ∧ i.wellFormed = true ∧ i.isPrefix = false ∧
    s.boundary.bytesAtIp (ps.flatMap encode ++ encode i) ∧ 2 < ps.length :=
  ⟨start.placeAtIp 0 [0x26, 0xF3, 0x3E, 0xA4], [.segEs, .rep, .segDs], .movsb,
    executes_of_quiet (by decide) (by decide) (by decide) (by decide), by decide, by decide, by decide, by decide,
    bytesAtIp_of_fetch (by decide) (by decide), by decide⟩

theorem read_fill (v : Byte) (n s a : Nat) (h : s ≤ a) (h' : a < s + n) :
    Memory.read ((List.range' s n).map fun k => (k, v)) a = v := by
  induction n generalizing s with
  | zero => omega
  | succ n ih =>
    simp only [List.range'_succ, List.map_cons, Memory.read]
    split
    · rfl
    · exact ih (s + 1) (by omega) (by omega)

theorem endless_of_read {m : Memory} (h : ∀ a, a < 65536 → Memory.read m a = 0xF3) :
    (start.setMem m).Executes ∧
      ∀ off : Word, (start.setMem m).boundary.readByte (phys ((start.setMem m).boundary.seg .cs) off) ∈ prefixBytes := by
  refine ⟨executes_of_quiet rfl rfl rfl rfl, fun off => ?_⟩
  have ha : (phys 0 off).toNat < 65536 := by simp only [phys]; bv_omega
  show Memory.read m (phys 0 off).toNat ∈ prefixBytes
  rw [h _ ha]
  decide

/-- O12: both sides of the equivalence hold of a state whose first 65 536 bytes are F3H -/
theorem witness_EndlessPrefixesStop : ∃ s : State, s.Executes ∧
    ∀ off : Word, s.boundary.readByte (phys (s.boundary.seg .cs) off) ∈ prefixBytes :=
  ⟨_, endless_of_read fun a ha => read_fill 0xF3 65536 0 a (Nat.zero_le a) (by omega)⟩
/-- O13: a state for each clause, the last with IF = 0 and with nothing eligible -/
theorem witness_SlotOrder :
    (start (trapLatch := true)).boundary.trapLatch = true ∧
    (let b := (start (flags := { f0 with ifl := true }) (pic := { Pic.reset with irr := 1 })).boundary;
      b.trapLatch = false ∧ b.flags.ifl = true ∧ b.pic.eligible = true) ∧
    (let b := (start (halt := true) (pic := { Pic.reset with irr := 1 })).boundary;
      b.trapLatch = false ∧ b.flags.ifl = false ∧ b.halt = true) ∧
    (let b := (start (halt := true) (flags := { f0 with ifl := true }) (pic := { Pic.reset with irr := 1, imr := 1 })).boundary;
      b.trapLatch = false ∧ b.pic.eligible = false ∧ b.halt = true) := by decide
/-- O14 -/
theorem witness_HaltWithInterruptsOffHangs :
    (start (halt := true)).halt = true ∧ (start (halt := true)).flags.ifl = false ∧ (start (halt := true)).trapLatch = false ∧
    (start (halt := true) (trapLatch := true)).halt = true := by decide
/-- O15: a batch of none, a batch that goes on, a batch that a cleared running flag ends -/
theorem witness_BatchesJoin :
    exec86 0 start = .next start ∧ (∃ t, exec86 1 small = .next t ∧ t.running = true) ∧
    ∃ t, exec86 1 (small.setEvents [[.stop]]) = .next t ∧ t.running = false := by
  have go : ∀ s : State, (match step s with | .next _ => true | _ => false) = true →
      ∃ t, step s = .next t ∧ exec86 1 s = .next t := fun s h => by
    split at h
    · rename_i t ht
      refine ⟨t, ht, ?_⟩
      simp only [exec86, ht]
      split <;> rfl
    · cases h
  refine ⟨rfl, ?_, ?_⟩
  · obtain ⟨t, h, h'⟩ := go small (by decide)
    have : (match step small with | .next t => t.running | _ => false) = true := by decide
    rw [h] at this
    exact ⟨t, h', this⟩
  · obtain ⟨t, h, h'⟩ := go (small.setEvents [[.stop]]) (by decide)
    have : (match step (small.setEvents [[.stop]]) with | .next t => t.running | _ => true) = false := by decide
    rw [h] at this
    exact ⟨t, h', this⟩
/-- O18: the numbers where the clauses on byte halves meet -/
theorem witness_RegisterLaws : (3 : BitVec 3).toNat < 4 ∧ 4 ≤ (4 : BitVec 3).toNat ∧ Reg16.bx ≠ wordReg .al ∧
    Reg16.sp ≠ wordReg .ah := by decide
/-- O19 -/
theorem witness_Addresses : (start.setSegOverride (some .es)).segOverride = some .es ∧ start.segOverride = none := by
  decide
theorem writable_of_all {s : State} {l : List Addr} (h : (l.all fun a => !s.ro.has a.toNat) = true) : s.writable l :=
  fun a ha => by simpa using List.all_eq_true.mp h a ha

/-- O20: a read-only byte and its writable neighbours -/
theorem witness_MemoryLaws : small.mem.wf = true ∧ small.ro.has (0x500 : Addr).toNat = true ∧
    small.ro.has (0x501 : Addr).toNat = false ∧ small.writable [0xFFFFF, 0xFFFFF + 1] :=
  ⟨by decide, by decide, by decide, writable_of_all (by decide)⟩
/-- O21, O33, O46, O48, O50: a stack that wraps at SP = 0, with a read-only byte elsewhere -/
theorem witness_writable_stack :
    (small.setReg .sp 0).mem.wf = true ∧ (small.setReg .sp 0).writable ((small.setReg .sp 0).stackAddrs 8) :=
  ⟨by decide, writable_of_all (by decide)⟩
/-- O30: both outcomes of each comparison -/
theorem witness_CompareThenJump :
    AluForm.operands start (.accImm (.b 1)) = .b (.reg .al) 0 1 ∧
    AluForm.operands start (.accImm (.w 0xFFFF)) = .w (.reg .ax) 0 0xFFFF ∧
    AluForm.operands start (.accImm (.b 0)) = .b (.reg .al) 0 0 := by decide
/-- O34, O35: without a repeat; with each repeat at CX = 0, 1 and 2 -/
theorem witness_RepeatRule :
    start.repMode = .norep ∧
    [RepMode.repe, .repne].all (fun m => [(0 : Word), 1, 2].all fun c =>
      ((start.setRepMode m).setReg .cx c).repMode != .norep && ((start.setRepMode m).setReg .cx c).reg .cx == c) = true ∧
    Instr.scasw ∈ [Instr.cmpsb, .cmpsw, .scasb, .scasw] := by decide
/-- O36, O37: counts 0, 1 and 255 -/
theorem witness_ShiftResults :
    ShiftCount.value start .cl = 0 ∧ ShiftCount.value start .one = 1 ∧ ShiftCount.value start (.imm 255) = 255 ∧
    (ShiftOp.sar, Instr.sar (.b (.reg .al)) .cl) ∈ [(ShiftOp.shl, Instr.shl (.b (.reg .al)) .cl),
      (.shr, .shr (.b (.reg .al)) .cl), (.sar, .sar (.b (.reg .al)) .cl)] := by decide
/-- O39, O40: the divisors next to the boundary, of each width and signedness (V45.8, V45.9, V45.13, V45.14) -/
theorem witness_DivideResults :
    let s := fun ax dx : Word => (start.setReg .ax ax).setReg .dx dx
    Operand.divFaults (s 0x0FFFF 0) (.b (.reg .bl) 0) = true ∧ Operand.divFaults (s 0x0FFF 0) (.b (.reg .bl) 0x0F) = true ∧
    Operand.divFaults (s 0x0FFF 0) (.b (.reg .bl) 0x10) = false ∧ Operand.divFaults (s 0 2) (.w (.reg .bx) 2) = true ∧
    Operand.divFaults (s 0 1) (.w (.reg .bx) 2) = false ∧ Operand.idivFaults (s 0xFF80 0) (.b (.reg .bl) 1) = false ∧
    Operand.idivFaults (s 0xFF80 0) (.b (.reg .bl) 0xFF) = true ∧ Operand.idivFaults (s 0 0) (.b (.reg .bl) 0) = true ∧
    Operand.idivFaults (s 0x8000 0xFFFF) (.w (.reg .bx) 1) = false ∧
    Operand.idivFaults (s 0x8000 0xFFFF) (.w (.reg .bx) 0xFFFF) = true := by decide
/-- O42: the largest digits -/
theorem witness_PackedDecimalArithmetic : 9 < 10 ∧ (start.setReg .ax 0x99).reg8 .al = BitVec.ofNat 8 (16 * 9 + 9) := by
  decide
/-- O41: a base that is not 0 -/
theorem witness_AdjustResults : (10 : Byte) ≠ 0 := by decide
/-- O44, O45: a port without a handler, ports with one -/
theorem witness_PortInstructions : lookupPort start.ports 0x60 = none ∧ lookupPort start.ports 0x21 = some .picData ∧
    lookupPort start.ports 0x0F = some .dmaIgnored ∧ lookupPort start.ports 0x10 = none := by decide
/-- O47: INTO with OF = 1; the two policies are the two cases of an opaque parameter -/
theorem witness_Into : (start (flags := { f0 with ofl := true })).flags.ofl = true := by decide
/-- O49: an index at its bounds and one outside (V49.10, V49.11), and the nesting levels 0, 31, 32 and 255 -/
theorem witness_Ext186Results :
    let s := fun ax : Word => ((start (mem := [(0x502, 4)])).setReg .ax ax)
    (s 4).outOfBounds .ax (.direct 0x500) = false ∧ (s 0).outOfBounds .ax (.direct 0x500) = false ∧
    (s 5).outOfBounds .ax (.direct 0x500) = true ∧ (s 0xFFFF).outOfBounds .ax (.direct 0x500) = true ∧
    (0 : Byte).toNat % 32 = 0 ∧ (32 : Byte).toNat % 32 = 0 ∧ (31 : Byte).toNat % 32 = 30 + 1 ∧
    (255 : Byte).toNat % 32 = 30 + 1 := by decide
/-- O51, O52: eligible lines, lines 7 and 8, ISR empty and not, every step of the initialisation, every command -/
theorem witness_PicPorts :
    Pic.eligible { Pic.reset with irr := 0x0A, imr := 0x02 } = true ∧ (8 ≤ 8 ∧ 7 < 8) ∧
    (({ Pic.reset with isr := 0x05 } : Pic).isr.getLsbD 0 = true ∧ Pic.reset.isr = 0) ∧
    (({ Pic.reset with isr := 0x80 } : Pic).isr.getLsbD 7 = true ∧
      ∀ i, i < 7 → ({ Pic.reset with isr := 0x80 } : Pic).isr.getLsbD i = false) ∧
    ((0x13 : Byte).getLsbD 4 = true ∧ (0x0B : Byte).getLsbD 4 = false ∧ (0x0B : Byte).getLsbD 3 = true ∧
      (0x20 : Byte).getLsbD 4 = false ∧ (0x20 : Byte).getLsbD 3 = false) := by decide
/-- O53: channels in each access mode with each flip -/
theorem witness_PitPorts :
    [Access.latch, .lo, .hi, .toggle].all (fun a => [true, false].all fun b =>
      ({ PitChannel.reset with access := a, flipHigh := b } : PitChannel).access == a
        && ({ PitChannel.reset with access := a, flipHigh := b } : PitChannel).flipHigh == b) = true := by decide
/-- O54: masked; at the last byte; exhausted with and without auto-init; a channel that does not exist -/
theorem witness_DmaController :
    Dma.reset.ch1.masked = true ∧
    (let x : DmaChannel := { DmaChannel.reset with reload := 1, count := 1, masked := false };
      x.masked = false ∧ ¬ x.reload.toNat < x.count) ∧
    (let x : DmaChannel := { DmaChannel.reset with reload := 1, count := 2, masked := false };
      x.reload.toNat < x.count ∧ x.autoinit = false) ∧
    (let x : DmaChannel := { DmaChannel.reset with reload := 1, count := 2, masked := false, autoinit := true };
      x.reload.toNat < x.count ∧ x.autoinit = true) ∧ 4 ≤ 4 := by decide
/-- O56 -/
theorem witness_SchedulerCatchesUp : 7 ≤ 7 ∧ 7 ≤ 1000 := by decide
/-- O57, O58, O59: an execution that stores (MOV to memory), one that stores nothing, one that reaches a device -/
theorem witness_frames :
    (∃ t, exec (.movMoffsAcc .word 0xFFFF) small = .next t) ∧ (∃ t, exec .std small = .next t) ∧
    ∃ t, exec (.outImm .byte 0x21) small = .next t := ⟨⟨_, rfl⟩, ⟨_, rfl⟩, ⟨_, rfl⟩⟩
/-- O60: POPF of a word with TF and IF set (V47.10) -/
theorem witness_OnlyTheseSetTfAndIf : ∃ t,
    exec .popf (start (regs := { r0 with sp := 0xFFE }) (mem := [(0xFFE, 0xFF), (0xFFF, 0xFF)])) = .next t ∧
    f0.tf = false ∧ t.flags.tf = true ∧ f0.ifl = false ∧ t.flags.ifl = true :=
  ⟨_, rfl, by decide, by decide, by decide, by decide⟩

end Sys2Proof.Tests
end

section
/-! PROOFS of the statement about external events (spec/00_scope.md R9): what the events of a slot boundary do to the
interrupt controller and, through the laws of `Laws/SlotOps.lean`, that they reach nothing of the CPU. -/

namespace Sys2Proof.Machine

/-! ### Requests and the catch-up counter touch neither ISR, IMR nor ICW2 (R553, R560) -/

@[simp] theorem Pic.doirq_isr (p : Pic) (line : Nat) : (p.doirq line).isr = p.isr := by
  unfold Pic.doirq; split <;> rfl
@[simp] theorem Pic.doirq_imr (p : Pic) (line : Nat) : (p.doirq line).imr = p.imr := by
  unfold Pic.doirq; split <;> rfl
@[simp] theorem Pic.doirq_icw2 (p : Pic) (line : Nat) : (p.doirq line).icw2 = p.icw2 := by
  unfold Pic.doirq; split <;> rfl
@[simp] theorem Pic.catchUp_isr (p : Pic) : p.catchUp.isr = p.isr := rfl
@[simp] theorem Pic.catchUp_imr (p : Pic) : p.catchUp.imr = p.imr := rfl
@[simp] theorem Pic.catchUp_icw2 (p : Pic) : p.catchUp.icw2 = p.icw2 := rfl

/-! ### The scheduler's poll and the interrupt controller (R580, R621) -/

/-- Host time moves the counter of a channel, not its activity. -/
@[simp] theorem Pit.counted_ch0_active (p : Pit) (d : Nat) : (p.counted d).ch0.active = p.ch0.active := by
  simp only [Pit.counted]; split <;> rfl

@[simp] theorem State.doirq_pic (s : State) (line : Nat) : (s.doirq line).pic = s.pic.doirq line := rfl

theorem State.servicePit_pic (s : State) :
    s.servicePit.pic = if s.pit.ch0.active = true then s.pic.doirq 0 else s.pic := by
  unfold State.servicePit; split <;> rfl

/-- A poll asserts line 0 exactly when the interval has elapsed and channel 0 is active. -/
theorem State.tick_pic (s : State) (now : Nat) :
    (s.tick now).pic =
      if s.sched.lastServiced + s.pit.ch0.hostTicks ≤ max s.sched.hostTick now ∧ s.pit.ch0.active = true
      then s.pic.doirq 0 else s.pic := by
  simp only [State.tick]
  split
  · next elapsed => simp [elapsed, State.servicePit_pic]
  · next early => simp [early]

/-- Line 0 is asserted at most once, and only while channel 0 is active. -/
theorem State.tick_pic_cases (s : State) (now : Nat) :
    (s.tick now).pic = s.pic ∨ ((s.tick now).pic = s.pic.doirq 0 ∧ s.pit.ch0.active = true) := by
  rw [State.tick_pic]
  split
  · next due =>
    obtain ⟨_, active⟩ := due
    exact .inr ⟨rfl, active⟩
  · exact .inl rfl

/-- All that an event can do to the interrupt controller: nothing, one request, or one count of the catch-up counter. -/
theorem State.applyEvent_pic_cases (s : State) (e : Event) :
    (s.applyEvent e).pic = s.pic ∨ (∃ line, (s.applyEvent e).pic = s.pic.doirq line) ∨
      (s.applyEvent e).pic = s.pic.catchUp := by
  have ticked (now : Nat) : (s.tick now).pic = s.pic ∨ ∃ line, (s.tick now).pic = s.pic.doirq line :=
    (s.tick_pic_cases now).imp_right fun ⟨h, _⟩ => ⟨0, h⟩
  cases e with
  | doirq line => exact .inr (.inl ⟨line, rfl⟩)
  | dmaRead channel => exact .inl (s.dmaRead_pic channel)
  | catchUp => exact .inr (.inr rfl)
  | tick now => exact (ticked now).imp_right .inl
  | poll now =>
    obtain h | h := s.poll_cases now
    · simpa only [State.applyEvent, h] using (ticked now).imp_right .inl
    · exact .inl (congrArg State.pic h)
  | stop => exact .inl rfl

/-- No event reaches the in-service bits, the mask or the vector base. -/
theorem State.applyEvent_pic_keeps (s : State) (e : Event) :
    (s.applyEvent e).pic.isr = s.pic.isr ∧ (s.applyEvent e).pic.imr = s.pic.imr ∧
      (s.applyEvent e).pic.icw2 = s.pic.icw2 := by
  obtain h | ⟨line, h⟩ | h := s.applyEvent_pic_cases e <;> simp [h]

/-! ### The cadence (R500) -/

theorem State.poll_eq (s : State) (now : Nat) :
    s.poll now = if s.instrCount % Config.tickCadence = 0 then s.tick now else s := by
  simp only [State.poll, State.onCadence, decide_eq_true_eq]

/-- Settles O55: the frame of an event is the laws of `applyEvent` field by field, with the PIC by what an event can do
to it; a poll is a `tick` on the cadence. -/
theorem externalEventsKeepCpuAndMemory : Obligations.ExternalEventsKeepCpuAndMemory := by
  refine ⟨fun s e => ?_, State.tick_pic_cases, State.poll_eq, Nat.succ_pos _⟩
  exact ⟨s.applyEvent_regs e, s.applyEvent_segs e, s.applyEvent_ip e, s.applyEvent_flags e, s.applyEvent_halt e,
    s.applyEvent_trapLatch e, s.applyEvent_mem e, s.applyEvent_ro e, s.applyEvent_ports e, s.applyEvent_instrCount e,
    s.applyEvent_pic_keeps e⟩

end Sys2Proof.Machine
end

section
/-! PROOFS of the statement about the FLAGS word (spec/10_state.md R26 to R28): the word's bits by position, and its
value as the sum of the bits' places. -/

namespace Sys2Proof.Machine

theorem flagBit_eq (b : Bool) (n : Nat) : flagBit b n = if b then BitVec.twoPow 16 n else 0#16 := by
  cases b <;> simp [flagBit, BitVec.twoPow]

theorem getElem_flagBit (b : Bool) (n i : Nat) (hi : i < 16) : (flagBit b n)[i] = (decide (n = i) && b) := by
  cases b <;> simp [flagBit_eq, eq_comm]

theorem toNat_flagBit (b : Bool) {n : Nat} (hn : n < 16) : (flagBit b n).toNat = 2 ^ n * b.toNat := by
  cases b <;> simp [flagBit_eq, BitVec.toNat_twoPow_of_lt hn]

/-- A flag put where a word has a 0 adds its place. -/
theorem toNat_or_flagBit (v : Word) (b : Bool) {n : Nat} (hn : n < 16) (free : v[n] = false) :
    (v ||| flagBit b n).toNat = v.toNat + 2 ^ n * b.toNat := by
  have disjoint : v &&& flagBit b n = 0#16 := by
    ext i hi
    by_cases place : n = i
    · subst place; simp [free]
    · simp [getElem_flagBit, place]
  rw [← BitVec.add_eq_or_of_and_eq_zero _ _ disjoint, BitVec.toNat_add_of_and_eq_zero disjoint, toNat_flagBit b hn]

theorem Flags.getElem_word (f : Flags) (i : Nat) (hi : i < 16) :
    f.word[i] = (Config.flagsFixedOnes[i] || decide (0 = i) && f.cf || decide (2 = i) && f.pf || decide (4 = i) && f.af
      || decide (6 = i) && f.zf || decide (7 = i) && f.sf || decide (8 = i) && f.tf || decide (9 = i) && f.ifl
      || decide (10 = i) && f.df || decide (11 = i) && f.ofl) := by
  simp only [Flags.word, BitVec.getElem_or, getElem_flagBit]

/-- The flags are put one after the other at places that are still 0. -/
theorem Flags.toNat_word (f : Flags) :
    f.word.toNat = 0xF002 + f.cf.toNat + 4 * f.pf.toNat + 16 * f.af.toNat + 64 * f.zf.toNat + 128 * f.sf.toNat
      + 256 * f.tf.toNat + 512 * f.ifl.toNat + 1024 * f.df.toNat + 2048 * f.ofl.toNat := by
  simp [-BitVec.toNat_or, Flags.word, Config.flagsFixedOnes, toNat_or_flagBit, getElem_flagBit]

/-- The places of the flags meet neither each other nor the fixed ones. -/
theorem Flags.ofWord_word (f : Flags) : Flags.ofWord f.word = f := by
  simp [Flags.ofWord, Flags.getElem_word, Config.flagsFixedOnes]

theorem Flags.word_clear : Flags.clear.word = 0xF002 := by decide

/-- A written word keeps the nine places of the mask 0x0FD5; the others take their fixed values. -/
theorem Flags.word_ofWord (v : Word) : (Flags.ofWord v).word = (v &&& 0x0FD5) ||| 0xF002 := by
  ext i hi
  rw [Flags.getElem_word]
  interval_cases i <;> simp [Flags.ofWord, Config.flagsFixedOnes]

/-- Settles O17: the word's value is the sum of its bits' places, and its bits are read at the same places. -/
theorem flagsWordLayout : Obligations.FlagsWordLayout :=
  ⟨Flags.toNat_word, Flags.word_clear, fun _ => ⟨rfl, rfl, rfl, rfl, rfl, rfl, rfl, rfl, rfl⟩, Flags.ofWord_word,
    Flags.word_ofWord⟩

end Sys2Proof.Machine
end

section
/-! PROOFS of the statement about the registers (spec/10_state.md R20, R21, R23): a byte half is named by its word
register and its place in it. -/

namespace Sys2Proof.Machine

/-! ### Bytes of a word (R12) -/

@[simp] theorem low8_wordOf (hi lo : Byte) : low8 (wordOf hi lo) = lo := BitVec.extractLsb'_append_eq_right
@[simp] theorem high8_wordOf (hi lo : Byte) : high8 (wordOf hi lo) = hi := BitVec.extractLsb'_append_eq_left
theorem high8_append_low8 (v : Word) : high8 v ++ low8 v = v :=
  BitVec.extractLsb'_append_extractLsb' (w := 8) (len := 8)

/-! ### Byte halves (R21) -/

/-- The register and the place in it determine the byte half. -/
theorem Reg8.eq_iff (q r : Reg8) : q = r ↔ wordReg q = wordReg r ∧ isHighHalf q = isHighHalf r := by
  cases q <;> cases r <;> decide

theorem Reg8.wordReg_ofBits_low (n : BitVec 3) (h : n.toNat < 4) :
    wordReg (Reg8.ofBits n) = Reg16.ofBits n ∧ isHighHalf (Reg8.ofBits n) = false := by
  revert n; decide

theorem Reg8.wordReg_ofBits_high (n : BitVec 3) (h : 4 ≤ n.toNat) :
    wordReg (Reg8.ofBits n) = Reg16.ofBits (n - 4) ∧ isHighHalf (Reg8.ofBits n) = true := by
  revert n; decide

theorem State.reg8_of_low (s : State) {r : Reg8} (h : isHighHalf r = false) : s.reg8 r = low8 (s.reg (wordReg r)) := by
  simp [State.reg8, h]

theorem State.reg8_of_high (s : State) {r : Reg8} (h : isHighHalf r = true) : s.reg8 r = high8 (s.reg (wordReg r)) := by
  simp [State.reg8, h]

/-- What a write to a byte half leaves in its word register. -/
theorem State.reg_setReg8_self (s : State) (r : Reg8) (v : Byte) :
    (s.setReg8 r v).reg (wordReg r) =
      if isHighHalf r then wordOf v (low8 (s.reg (wordReg r))) else wordOf (high8 (s.reg (wordReg r))) v := by
  simp [State.setReg8, State.reg_setReg]

/-- A byte half of another register is not reached; in the same register, the two halves are apart. -/
theorem State.reg8_setReg8 (s : State) (r q : Reg8) (v : Byte) :
    (s.setReg8 r v).reg8 q = if q = r then v else s.reg8 q := by
  by_cases same : wordReg q = wordReg r
  · simp only [Reg8.eq_iff, same, true_and, State.reg8, State.reg_setReg8_self]
    cases isHighHalf r <;> cases isHighHalf q <;> simp
  · have other : q ≠ r := fun h => same (h ▸ rfl)
    simp only [State.reg8, State.reg_setReg8_ne s v same, if_neg other]

/-- Settles O18: the laws of register files, and those of a byte half by its word register and its place. -/
theorem registerLaws : Obligations.RegisterLaws := by
  have halves (w : Word) : w = high8 w ++ low8 w := (high8_append_low8 w).symm
  refine ⟨State.reg_setReg, State.reg8_setReg8, fun s _ _ v => State.reg_setReg8_ne s v,
    fun s => ⟨halves _, halves _, halves _, halves _⟩, fun s n => ⟨fun low => ?_, fun high => ?_⟩, State.seg_setSeg⟩
  · obtain ⟨register, place⟩ := Reg8.wordReg_ofBits_low n low
    rw [State.reg8_of_low s place, register, low8]
  · obtain ⟨register, place⟩ := Reg8.wordReg_ofBits_high n high
    rw [State.reg8_of_high s place, register, high8]

end Sys2Proof.Machine
end

section
/-! PROOFS of the statement about reset (spec/10_state.md R37, spec/61_devices.md R551, R571, R591,
spec/70_reset_and_hazards.md R632). -/

namespace Sys2Proof.Machine

theorem Flags.get_clear (f : FlagName) : Flags.clear.get f = false := by cases f <;> rfl

theorem Pit.get_reset (c : Fin 3) : Pit.reset.get c = PitChannel.reset := by
  match c with
  | 0 | 1 | 2 => rfl

theorem Dma.get_reset (c : Fin 4) : Dma.reset.get c = DmaChannel.reset := by
  match c with
  | 0 | 1 | 2 | 3 => rfl

theorem PitChannel.eff_reset : PitChannel.reset.eff = 65536 := by decide

/-- The first instruction is fetched 16 bytes below the top of memory. -/
theorem phys_reset : phys (SegRegs.reset.get .cs) 0 = 0xFFFF0 := by decide

/-! ### A later reset (R632) -/

@[simp] theorem State.hostReset_segs (s : State) : s.hostReset.segs = .reset := by simp [State.hostReset]
@[simp] theorem State.hostReset_ip (s : State) : s.hostReset.ip = 0 := by simp [State.hostReset]
@[simp] theorem State.hostReset_flags (s : State) : s.hostReset.flags = .clear := by simp [State.hostReset]
@[simp] theorem State.hostReset_halt (s : State) : s.hostReset.halt = false := by simp [State.hostReset]
@[simp] theorem State.hostReset_trapLatch (s : State) : s.hostReset.trapLatch = false := by simp [State.hostReset]
@[simp] theorem State.hostReset_mem (s : State) : s.hostReset.mem = s.mem := by simp [State.hostReset]
@[simp] theorem State.hostReset_ro (s : State) : s.hostReset.ro = s.ro := by simp [State.hostReset]
@[simp] theorem State.hostReset_ports (s : State) : s.hostReset.ports = s.ports := by simp [State.hostReset]
@[simp] theorem State.hostReset_pic (s : State) : s.hostReset.pic = s.pic := by simp [State.hostReset]
@[simp] theorem State.hostReset_pit (s : State) : s.hostReset.pit = s.pit := by simp [State.hostReset]
@[simp] theorem State.hostReset_dma (s : State) : s.hostReset.dma = s.dma := by simp [State.hostReset]

theorem State.hostReset_seg (s : State) (r : SReg) : s.hostReset.seg r = SegRegs.reset.get r := by
  rw [State.seg, State.hostReset_segs]

/-- Settles O1: every cell of the power-on state is written out in its definition; a flag or channel that is named by a
variable is one of a cleared or reset file, and a later `reset()` is known by its fields. -/
theorem resetStates : Obligations.ResetStates := by
  refine ⟨⟨fun g m r => ?_, .zero, [], [], rfl⟩, fun s => ?_⟩
  · have pit (c : Fin 3) : (State.powerOn g m r).pit.get c = .reset := Pit.get_reset c
    have dma (c : Fin 4) : (State.powerOn g m r).dma.get c = .reset := Dma.get_reset c
    refine ⟨rfl, rfl, rfl, rfl, rfl, rfl, rfl, rfl, rfl, rfl, Flags.get_clear, Flags.word_clear, phys_reset, rfl, rfl, rfl,
      rfl, rfl, rfl, rfl, rfl, rfl, rfl, fun c => ?_, fun c => ?_, rfl⟩
    · rw [pit c]; exact ⟨rfl, PitChannel.eff_reset, rfl, rfl, rfl, rfl⟩
    · rw [dma c]; exact ⟨rfl, rfl, rfl, rfl, rfl, rfl, rfl, rfl⟩
  · simp [State.hostReset_seg, SegRegs.reset, SegRegs.get, Flags.get_clear]

end Sys2Proof.Machine
end

section
/-! PROOFS of the statements about memory, the stack and addresses (spec/20_memory.md R61 to R71,
spec/30_encoding.md R108, R113). -/

namespace Sys2Proof.Machine

/-! ### Bytes and words of memory (R63 to R66) -/

/-- A write at a read-only address is dropped (R64). -/
theorem State.writeByte_readOnly {s : State} {a : Addr} (h : s.ro.has a.toNat = true) (v : Byte) :
    s.writeByte a v = s := by
  simp [State.writeByte, h]

theorem State.outputs_writeByte {s : State} {a : Addr} (h : s.ro.has a.toNat = false) (v : Byte) :
    (s.writeByte a v).outputs =
      if 0xA0000 ≤ a.toNat ∧ a.toNat ≤ 0xBFFFF then .display a v :: s.outputs else s.outputs := by
  have window : inVideoWindow a = true ↔ 0xA0000 ≤ a.toNat ∧ a.toNat ≤ 0xBFFFF := by
    rw [inVideoWindow, Bool.and_eq_true, decide_eq_true_eq, decide_eq_true_eq]; rfl
  simp only [State.writeByte, h, Bool.false_eq_true, if_false, window]
  split
  · rfl
  · rfl

/-- A byte write reaches memory and the output events only. -/
theorem State.writeByte_frame (s : State) (a : Addr) (v : Byte) :
    { s.writeByte a v with mem := s.mem, outputs := s.outputs } = s := by
  unfold State.writeByte
  split
  · rfl
  · dsimp only
    split
    · rfl
    · rfl

/-- The two bytes of a word are apart, so it does not matter which is written first. -/
theorem State.readByte_writeWord {s : State} (hw : s.mem.wf = true) (a b : Addr) (v : Word) :
    (s.writeWord a v).readByte b =
      if b = a ∧ s.ro.has a.toNat = false then low8 v
      else if b = a + 1 ∧ s.ro.has (a + 1).toNat = false then high8 v
      else s.readByte b := by
  have apart : a ≠ a + 1 := by bv_omega
  rw [State.writeWord, State.readByte_writeByte (State.wf_writeByte hw _ _), State.readByte_writeByte hw,
    State.writeByte_ro]
  by_cases low : b = a
  · subst low; simp
  · simp [low]

theorem State.readWord_writeWord {s : State} (hw : s.mem.wf = true) {a : Addr} (h : s.writable [a, a + 1]) (v : Word) :
    (s.writeWord a v).readWord a = v := by
  have low := h a (by simp)
  have high := h (a + 1) (by simp)
  have apart : a + 1 ≠ a := by bv_omega
  simp only [State.readWord, State.readByte_writeWord hw, low, high, apart, and_true, if_true, if_false]
  exact high8_append_low8 v

/-- Settles O20: the laws of a byte write, then those of a word as two byte writes. -/
theorem memoryLaws : Obligations.MemoryLaws := by
  refine ⟨fun s a b v hw => ?_, fun s a => ⟨rfl, fun v => rfl⟩, fun s a b v hw => State.readByte_writeWord hw a b v,
    fun s a v hw writable => State.readWord_writeWord hw writable v⟩
  refine ⟨fun readOnly => State.writeByte_readOnly readOnly v, fun free => ⟨?_, State.outputs_writeByte free v⟩,
    s.writeByte_frame a v, State.wf_writeByte hw a v⟩
  simp [State.readByte_writeByte hw, free]

/-! ### The stack (R71) -/

/-- A push writes the word at the lowered SP. -/
theorem State.push16_eq (s : State) (v : Word) :
    s.push16 v = (s.setReg .sp (s.reg .sp - 2)).writeWord (phys (s.seg .ss) (s.reg .sp - 2)) v := by
  have sp : s.grown.reg .sp = s.reg .sp - 2 := s.reg_grown .sp
  rw [← sp]; rfl

theorem State.top_push16 {s : State} (hw : s.mem.wf = true) (h : s.writable (s.stackAddrs 1)) (v : Word) :
    (s.push16 v).top = v := by
  have sp : (s.push16 v).reg .sp = s.reg .sp - 2 := s.reg_push16 v .sp
  have word := State.readWord_writeWord (s := s.setReg .sp (s.reg .sp - 2)) hw
    (a := phys (s.seg .ss) (s.reg .sp - 2)) h v
  rwa [← State.push16_eq, ← sp, ← State.seg_push16 s v] at word

theorem State.regs_popped_push16 (s : State) (v : Word) : (s.push16 v).popped.regs = s.regs := by
  refine Regs.ext_get fun r => ?_
  show (s.push16 v).popped.reg r = s.reg r
  rw [State.reg_popped, State.reg_push16, State.reg_push16]
  split
  · next sp => subst sp; simp
  · next other => rfl

/-- Settles O21: a push is a word write at the lowered SP, and a pop reads it and raises SP again. -/
theorem stackLaws : Obligations.StackLaws :=
  ⟨State.push16_eq, fun _ => ⟨rfl, rfl⟩,
    fun s v hw h => ⟨State.top_push16 hw h v, s.regs_popped_push16 v⟩⟩

/-! ### Addresses (R61, R68, R108, R113) -/

theorem State.eaFormula_eq (s : State) (b : EaBase) : s.eaFormula b = BitVec.ofInt 16 (s.eaSum b) := by
  cases b <;> simp [State.eaFormula, State.eaSum, BitVec.ofInt_add]

theorem dispWord_eq (d : Disp) : dispWord d = BitVec.ofInt 16 (dispInt d) := by
  cases d with
  | no => rfl
  | d8 d => rfl
  | d16 d => simp [dispWord, dispInt]

theorem State.ea_based (s : State) (b : EaBase) (d : Disp) :
    s.ea (.based b d) = BitVec.ofInt 16 (s.eaSum b + dispInt d) := by
  rw [State.ea, State.eaFormula_eq, dispWord_eq, BitVec.ofInt_add]

theorem State.memSeg_override {s : State} {r : SReg} (h : s.segOverride = some r) (m : MemOp) :
    s.memSeg m = s.seg r := by
  simp [State.memSeg, State.overrideOr, h]

theorem State.memSeg_default {s : State} (h : s.segOverride = none) (m : MemOp) :
    s.memSeg m = s.seg (defaultSeg m) := by
  simp [State.memSeg, State.overrideOr, h]

theorem defaultSeg_based (b : EaBase) (d : Disp) :
    defaultSeg (.based b d) = if b = .bpSi ∨ b = .bpDi ∨ b = .bp then .ss else .ds := by
  cases b <;> rfl

/-- Settles O19: formula and displacement as integers modulo 2^16, and the segment by override or default. -/
theorem addresses : Obligations.Addresses := by
  refine ⟨fun sg off => BitVec.toNat_ofNat _ _, by decide, by decide, fun s sg => ⟨rfl, fun v => rfl⟩, State.ea_based,
    fun s a => rfl, fun s m r h => State.memSeg_override h m, fun s b d h => ?_, fun s a h => State.memSeg_default h _⟩
  rw [State.memSeg_default h, defaultSeg_based, apply_ite s.seg]

end Sys2Proof.Machine
end

section
/-! PROOFS, first part of those about every step (spec/20_memory.md R64, spec/61_devices.md R596, R610): the DMA bound, and
one relation between the states before and after any part of a slot, alone and with the bytes that are stored. -/

namespace Sys2Proof.Machine

/-! ### The DMA bound (R590, R596) -/

theorem Dma.bounded.get {d : Dma} (h : d.bounded) (c : Fin 4) : (d.get c).bounded := by
  obtain ⟨h0, h1, h2, h3⟩ := h
  match c with
  | 0 => exact h0
  | 1 => exact h1
  | 2 => exact h2
  | 3 => exact h3

theorem Dma.bounded.set {d : Dma} (h : d.bounded) (c : Fin 4) {x : DmaChannel} (hx : x.bounded) :
    (d.set c x).bounded := by
  obtain ⟨h0, h1, h2, h3⟩ := h
  match c with
  | 0 => exact ⟨hx, h1, h2, h3⟩
  | 1 => exact ⟨h0, hx, h2, h3⟩
  | 2 => exact ⟨h0, h1, hx, h3⟩
  | 3 => exact ⟨h0, h1, h2, hx⟩

theorem DmaChannel.bounded.rearmed {x : DmaChannel} (h : x.bounded) : x.rearmed.bounded := by
  unfold DmaChannel.rearmed
  split
  · exact Nat.zero_le _
  · exact h

/-- A channel counts up only while it has not passed its reload value. -/
theorem DmaChannel.bounded.afterRead {x : DmaChannel} (h : x.bounded) : x.afterRead.bounded := by
  unfold DmaChannel.afterRead
  split
  · exact h
  · dsimp only
    split
    · exact h.rearmed
    · next more => exact Nat.succ_le_succ (Nat.not_lt.mp more)

/-- A port write stores bytes of `reload` only with `count` starting again (R593). -/
theorem State.bounded_handlerOut {s : State} (h : s.dma.bounded) (port : Word) (v : Byte) (p : Handler) :
    (s.handlerOut port v p).dma.bounded := by
  cases p with
  | dmaAddress c => exact h.set c (h.get c)
  | dmaCount c => exact h.set c (Nat.zero_le _)
  | dmaMask => exact h.set _ (h.get _)
  | dmaMode => exact h.set _ (h.get _)
  | dmaPage c => exact h.set c (h.get c)
  | _ => exact h

theorem State.bounded_outByte {s : State} (h : s.dma.bounded) (port : Word) (v : Byte) :
    (s.outByte port v).dma.bounded := by
  unfold State.outByte
  split
  · exact State.bounded_handlerOut h port v _
  · exact h

theorem State.bounded_outWord {s : State} (h : s.dma.bounded) (port v : Word) : (s.outWord port v).dma.bounded :=
  State.bounded_outByte (State.bounded_outByte h _ _) _ _

theorem State.bounded_portOut {s : State} (h : s.dma.bounded) (w : Width) (port : Word) :
    (s.portOut w port).dma.bounded := by
  cases w with
  | byte => exact State.bounded_outByte h _ _
  | word => exact State.bounded_outWord h _ _

theorem State.bounded_dmaAdvance {s : State} (h : s.dma.bounded) (channel : Nat) :
    (s.dmaAdvance channel).dma.bounded := by
  unfold State.dmaAdvance
  split
  · exact h.set _ (h.get _).afterRead
  · exact h

/-! ### What no part of a slot breaks -/

/-- What holds between the states before and after any part of a slot: the read-only map, the bytes it protects and the
port table stand (R64, R610), and canonical memory and the DMA bound are kept. -/
structure State.Conserves (s t : State) : Prop where
  ro : t.ro = s.ro
  ports : t.ports = s.ports
  readOnlyByte : ∀ a : Addr, s.ro.has a.toNat = true → t.readByte a = s.readByte a
  memory : s.mem.wf = true → t.mem.wf = true
  dma : s.dma.bounded → t.dma.bounded

/-- What changes neither memory, the read-only map nor the port table, and keeps the DMA bound. -/
theorem State.Conserves.quiet {s t : State} (mem : t.mem = s.mem := by simp) (ro : t.ro = s.ro := by simp)
    (ports : t.ports = s.ports := by simp) (dma : s.dma.bounded → t.dma.bounded := by simp) : s.Conserves t :=
  ⟨ro, ports, fun a _ => State.readByte_congr mem a, fun h => mem ▸ h, dma⟩

theorem State.Conserves.trans {s t u : State} (st : s.Conserves t) (tu : t.Conserves u) : s.Conserves u where
  ro := tu.ro.trans st.ro
  ports := tu.ports.trans st.ports
  readOnlyByte a h := (tu.readOnlyByte a (st.ro ▸ h)).trans (st.readOnlyByte a h)
  memory h := tu.memory (st.memory h)
  dma h := tu.dma (st.dma h)

theorem State.Conserves.inv {s t : State} (h : s.Conserves t) (hs : s.Inv) : t.Inv :=
  ⟨h.memory hs.memory, h.ro ▸ hs.readOnly, h.dma hs.dma⟩

theorem State.conserves_writeByte (s : State) (a : Addr) (v : Byte) : s.Conserves (s.writeByte a v) where
  ro := s.writeByte_ro a v
  ports := s.writeByte_ports a v
  readOnlyByte b h := by
    by_cases e : b = a
    · subst e; rw [State.writeByte_readOnly h]
    · exact s.readByte_writeByte_ne v e
  memory h := State.wf_writeByte h a v
  dma h := by simpa using h

theorem State.conserves_writeWord (s : State) (a : Addr) (v : Word) : s.Conserves (s.writeWord a v) :=
  (s.conserves_writeByte _ _).trans (State.conserves_writeByte _ _ _)

theorem State.conserves_push16 (s : State) (v : Word) : s.Conserves (s.push16 v) :=
  .trans (t := s.grown) .quiet (s.grown.conserves_writeWord _ _)

/-! ### Stores within a list of bytes -/

/-- As `State.Conserves`, and every byte outside the list reads as before. -/
structure State.StoresWithin (s : State) (bytes : List Addr) (t : State) : Prop extends s.Conserves t where
  outside : ∀ a : Addr, a ∉ bytes → t.readByte a = s.readByte a

namespace State.StoresWithin

variable {s t u : State} {l : List Addr}

/-- What stores nothing stores within any list. -/
theorem quiet (mem : t.mem = s.mem := by simp) (ro : t.ro = s.ro := by simp) (ports : t.ports = s.ports := by simp)
    (dma : s.dma.bounded → t.dma.bounded := by simp) : s.StoresWithin l t :=
  ⟨.quiet mem ro ports dma, fun a _ => State.readByte_congr mem a⟩

theorem trans (st : s.StoresWithin l t) (tu : t.StoresWithin l u) : s.StoresWithin l u :=
  ⟨st.toConserves.trans tu.toConserves, fun a h => (tu.outside a h).trans (st.outside a h)⟩

theorem writeByte (s : State) (a : Addr) (v : Byte) : s.StoresWithin [a] (s.writeByte a v) :=
  ⟨s.conserves_writeByte a v, fun _ h => s.readByte_writeByte_ne v (by simpa using h)⟩

theorem writeWord (s : State) (a : Addr) (v : Word) : s.StoresWithin (wordAddrs a) (s.writeWord a v) := by
  refine ⟨s.conserves_writeWord a v, fun b h => ?_⟩
  simp only [wordAddrs, List.mem_cons, List.not_mem_nil, or_false, not_or] at h
  obtain ⟨low, high⟩ := h
  exact s.readByte_writeWord_ne v low high

theorem write8 (s : State) (d : Loc Reg8) (v : Byte) : s.StoresWithin d.addrs8 (s.write8 d v) := by
  cases d with
  | reg r => exact quiet rfl
  | mem sg off => exact writeByte s _ v

theorem write16 (s : State) (d : Loc Reg16) (v : Word) : s.StoresWithin d.addrs16 (s.write16 d v) := by
  cases d with
  | reg r => exact quiet rfl
  | mem sg off => exact writeWord s _ v

/-- A push, and after it what stores in the next k words of the stack. -/
theorem push (v : Word) {k : Nat} (h : (s.push16 v).StoresWithin ((s.push16 v).stackAddrs k) t) :
    s.StoresWithin (s.stackAddrs (k + 1)) t := by
  refine ⟨(s.conserves_push16 v).trans h.toConserves, fun a ha => ?_⟩
  rw [State.mem_stackAddrs_succ s v, not_or] at ha
  obtain ⟨first, later⟩ := ha
  rw [h.outside a later, State.readByte_push16 s v first]

theorem push16 (s : State) (v : Word) : s.StoresWithin (s.stackAddrs 1) (s.push16 v) := push v quiet

theorem intCall (s : State) (n : Byte) : s.StoresWithin (s.stackAddrs 3) (s.intCall n) :=
  push s.flags.word (push (s.seg .cs) (push s.ip (quiet (by simp [State.intCall]))))

end State.StoresWithin

end Sys2Proof.Machine
end

section
/-! PROOFS of the statement that every instruction stores within its footprint: one lemma for each shared operation of the
instruction families, then one line for each instruction. -/

namespace Sys2Proof.Machine

namespace State.StoresWithin

variable {s t : State}

/-! ### The shared operations of the instruction families -/

theorem addTo (s : State) (x : Operands) (c : Bool) (f : List FlagName) :
    s.StoresWithin (x.footprint f).bytes (s.addTo x c) := by
  cases x with
  | b dst a b => exact .trans (t := s.setFlags _) .quiet (write8 _ dst _)
  | w dst a b => exact .trans (t := s.setFlags _) .quiet (write16 _ dst _)

theorem subFrom (s : State) (x : Operands) (c : Bool) (f : List FlagName) :
    s.StoresWithin (x.footprint f).bytes (s.subFrom x c) := by
  cases x with
  | b dst a b => exact .trans (t := s.setFlags _) .quiet (write8 _ dst _)
  | w dst a b => exact .trans (t := s.setFlags _) .quiet (write16 _ dst _)

theorem logic (s : State) (op : LogicOp) (x : Operands) (f : List FlagName) :
    s.StoresWithin (x.footprint f).bytes (s.logic op x) := by
  cases x with
  | b dst a b => exact .trans (t := s.logicFlags _) .quiet (write8 _ dst _)
  | w dst a b => exact .trans (t := s.logicFlags _) .quiet (write16 _ dst _)

theorem shift (s : State) (op : ShiftOp) (x : RmForm) (n : ShiftCount) (f : List FlagName) :
    s.StoresWithin (s.shiftFootprint x n f).bytes (s.shift op (x.operand s) (n.value s)) := by
  unfold State.shiftFootprint State.shift
  split
  · exact quiet
  · cases x with
    | b rm => exact .trans (t := (s.setFlags _).drew 2) .quiet (write8 _ _ _)
    | w rm => exact .trans (t := (s.setFlags _).drew 2) .quiet (write16 _ _ _)

theorem callNear (s : State) (off : Word) : s.StoresWithin (s.stackAddrs 1) (s.callNear off) :=
  push s.ip (quiet rfl)

theorem callFar (s : State) (sg off : Word) : s.StoresWithin (s.stackAddrs 2) (s.callFar sg off) :=
  push (s.seg .cs) (push s.ip (quiet rfl))

theorem illegal (s : State) : s.StoresWithin s.illegalFootprint.bytes (s.illegal Config.illegalOpcodePolicy) := by
  unfold State.illegalFootprint
  cases Config.illegalOpcodePolicy with
  | raise6 => exact intCall s 6
  | nop => exact quiet rfl

/-! ### ENTER (R469) -/

/-- n turns of the copy loop, and after them what stores in the next k words of the stack: each turn lowers BP, which moves no
stack address, and pushes. -/
theorem copyFrames {n k : Nat} (h : (s.copyFrames n).StoresWithin ((s.copyFrames n).stackAddrs k) t) :
    s.StoresWithin (s.stackAddrs (n + k)) t := by
  induction n generalizing s with
  | zero => rwa [Nat.zero_add]
  | succ n ih =>
    have lowered : s.StoresWithin (s.stackAddrs (n + k + 1)) (s.setReg .bp (s.reg .bp - 2)) := quiet
    rw [Nat.add_right_comm]
    exact lowered.trans (push _ (ih h))

/-! ### String instructions (R300 to R308) -/

theorem writeDest8 (t : State) (v : Byte) (segs : t.segs = s.segs) (regs : t.regs = s.regs) :
    t.StoresWithin [phys (s.seg .es) (s.reg .di)] (t.writeDest8 v) :=
  State.seg_congr segs .es ▸ State.reg_congr regs .di ▸ writeByte t _ v

theorem writeDest16 (t : State) (v : Word) (segs : t.segs = s.segs) (regs : t.regs = s.regs) :
    t.StoresWithin (wordAddrs (phys (s.seg .es) (s.reg .di))) (t.writeDest16 v) :=
  State.seg_congr segs .es ▸ State.reg_congr regs .di ▸ writeWord t _ v

/-- The repeat rule adds a count of CX and a change of IP (R301). -/
theorem repeated {x : Footprint} {body : State → State} (h : s.StoresWithin x.bytes (body s)) (compares : Bool) :
    s.StoresWithin (s.stringFootprint x).bytes (s.repeated compares body) := by
  unfold State.stringFootprint State.repeated
  split
  · exact h
  · split
    · exact quiet
    · dsimp only
      split
      · exact h.trans quiet
      · exact h.trans quiet

theorem movsb (s : State) : s.StoresWithin [phys (s.seg .es) (s.reg .di)] s.movsb :=
  (writeDest8 s s.source8 rfl rfl).trans (quiet rfl)

theorem movsw (s : State) : s.StoresWithin (wordAddrs (phys (s.seg .es) (s.reg .di))) s.movsw :=
  (writeDest16 s s.source16 rfl rfl).trans (quiet rfl)

theorem stosb (s : State) : s.StoresWithin [phys (s.seg .es) (s.reg .di)] s.stosb :=
  (writeDest8 s (s.reg8 .al) rfl rfl).trans (quiet rfl)

theorem stosw (s : State) : s.StoresWithin (wordAddrs (phys (s.seg .es) (s.reg .di))) s.stosw :=
  (writeDest16 s (s.reg .ax) rfl rfl).trans (quiet rfl)

theorem insb (s : State) : s.StoresWithin [phys (s.seg .es) (s.reg .di)] s.insb :=
  (trans (t := (s.inByte (s.reg .dx)).2) quiet (writeDest8 _ _ (by simp) (by simp))).trans (quiet rfl)

theorem insw (s : State) : s.StoresWithin (wordAddrs (phys (s.seg .es) (s.reg .di))) s.insw :=
  (trans (t := (s.inWord (s.reg .dx)).2) quiet (writeDest16 _ _ (by simp) (by simp))).trans (quiet rfl)

end State.StoresWithin

/-! ### When a divide faults (R362, R363) -/

/-- The high half is the number without its low half. -/
theorem toNat_append_div {v w : Nat} (high : BitVec v) (low : BitVec w) :
    (high ++ low).toNat / 2 ^ w = high.toNat := by
  rw [BitVec.toNat_append, ← Nat.shiftRight_eq_div_pow, Nat.shiftRight_or_distrib, Nat.shiftLeft_shiftRight,
    Nat.shiftRight_eq_zero _ _ low.isLt, Nat.or_zero]

/-- A quotient needs more than w bits exactly when the divisor is at most the high half of the dividend (R362). -/
theorem divisor_le_high_iff {w : Nat} (high low v : BitVec w) :
    v.toNat ≤ high.toNat ↔ v = 0 ∨ 2 ^ w - 1 < (high ++ low).toNat / v.toNat := by
  by_cases zero : v = 0
  · simp [zero]
  have pos : 0 < v.toNat := Nat.pos_of_ne_zero fun h => zero (BitVec.eq_of_toNat_eq h)
  rw [← toNat_append_div high low, Nat.le_div_iff_mul_le (Nat.two_pow_pos w), Nat.mul_comm,
    ← Nat.le_div_iff_mul_le pos]
  have := Nat.two_pow_pos w
  simp only [zero, false_or]
  omega

theorem Operand.divFaults_b (s : State) (d : Loc Reg8) (v : Byte) :
    (Operand.b d v).divFaults s = true ↔ v = 0 ∨ 0xFF < (s.reg .ax).toNat / v.toNat := by
  have ax : s.reg .ax = s.reg8 .ah ++ s.reg8 .al := (high8_append_low8 _).symm
  rw [Operand.divFaults, decide_eq_true_iff, divisor_le_high_iff _ (s.reg8 .al), ← ax]; rfl

theorem Operand.divFaults_w (s : State) (d : Loc Reg16) (v : Word) :
    (Operand.w d v).divFaults s = true ↔ v = 0 ∨ 0xFFFF < s.dxax.toNat / v.toNat := by
  rw [Operand.divFaults, decide_eq_true_iff, divisor_le_high_iff _ (s.reg .ax), ← State.dxax]; rfl

/-- The smallest quotient of IDIV is the smallest signed number (D12). -/
theorem quotientOverflows_eq (w : Nat) (q : Int) : quotientOverflows w q = !fitsSigned w q := by
  have least : minQuotient w = -(2 ^ (w - 1) : Int) := rfl
  rw [Bool.eq_iff_iff]
  simp only [quotientOverflows, fitsSigned, least, Bool.or_eq_true, Bool.not_eq_true', Bool.and_eq_false_iff,
    decide_eq_true_eq, decide_eq_false_iff_not]
  omega

theorem Operand.idivFaults_b (s : State) (d : Loc Reg8) (v : Byte) :
    (Operand.b d v).idivFaults s = true ↔ v = 0 ∨ quotientOverflows 8 ((s.reg .ax).toInt.tdiv v.toInt) = true := by
  simp [Operand.idivFaults, quotientOverflows_eq, ← BitVec.toInt_inj]

theorem Operand.idivFaults_w (s : State) (d : Loc Reg16) (v : Word) :
    (Operand.w d v).idivFaults s = true ↔ v = 0 ∨ quotientOverflows 16 (s.dxax.toInt.tdiv v.toInt) = true := by
  simp [Operand.idivFaults, quotientOverflows_eq, State.dxax, ← BitVec.toInt_inj]

/-! ### The instructions with cases -/

theorem execEnter_storesWithin (size : Word) (level : Byte) (s : State) :
    ∃ t, execEnter size level s = .next t ∧ s.StoresWithin (s.stackAddrs ((level &&& 0x1F).toNat + 1)) t := by
  refine ⟨_, rfl, ?_⟩
  cases (level &&& 0x1F).toNat with
  | zero => exact .push (s.reg .bp) (.quiet rfl)
  | succ n => exact .push (s.reg .bp) (.copyFrames (.push _ (.quiet rfl)))

/-- A divide: vectoring when the divisor is zero or the quotient too large, else results within a given footprint. -/
theorem State.divide_storesWithin {s done : State} {faults : Bool} {zero large : Prop} [Decidable zero] [Decidable large]
    (h : faults = true ↔ zero ∨ large) {x : Footprint} (results : s.StoresWithin x.bytes done) :
    ∃ t, (if zero then Host.Outcome.next s.divideError else if large then .next s.divideError else .next done)
        = (.next t : Host.Outcome State Fault Refusal) ∧
      s.StoresWithin (if faults then s.vectorFootprint else x).bytes t := by
  have error (hf : faults = true) : s.StoresWithin (if faults then s.vectorFootprint else x).bytes s.divideError := by
    rw [if_pos hf]; exact .intCall s 0
  by_cases hz : zero
  · rw [if_pos hz]; exact ⟨_, rfl, error (h.mpr (.inl hz))⟩
  · rw [if_neg hz]
    by_cases hl : large
    · rw [if_pos hl]; exact ⟨_, rfl, error (h.mpr (.inr hl))⟩
    · have sound : ¬ faults = true := fun hf => (h.mp hf).elim hz hl
      rw [if_neg hl, if_neg sound]; exact ⟨_, rfl, results⟩

theorem execDiv_storesWithin (x : RmForm) (s : State) :
    ∃ t, execDiv x s = .next t ∧ s.StoresWithin (Instr.footprint (.div x) s).bytes t :=
  match x with
  | .b _ => State.divide_storesWithin (Operand.divFaults_b ..) .quiet
  | .w _ => State.divide_storesWithin (Operand.divFaults_w ..) .quiet

theorem execIdiv_storesWithin (x : RmForm) (s : State) :
    ∃ t, execIdiv x s = .next t ∧ s.StoresWithin (Instr.footprint (.idiv x) s).bytes t :=
  match x with
  | .b _ => State.divide_storesWithin (Operand.idivFaults_b ..) .quiet
  | .w _ => State.divide_storesWithin (Operand.idivFaults_w ..) .quiet

theorem execAaa_storesWithin (s : State) : ∃ t, execAaa s = .next t ∧ s.StoresWithin [] t := by
  simp only [execAaa]
  split
  · exact ⟨_, rfl, .quiet⟩
  · exact ⟨_, rfl, .quiet⟩

theorem execAas_storesWithin (s : State) : ∃ t, execAas s = .next t ∧ s.StoresWithin [] t := by
  simp only [execAas]
  split
  · exact ⟨_, rfl, .quiet⟩
  · exact ⟨_, rfl, .quiet⟩

theorem execBound_storesWithin (r : Reg16) (m : MemOp) (s : State) :
    ∃ t, execBound r m s = .next t ∧ s.StoresWithin (Instr.footprint (.bound r m) s).bytes t := by
  unfold execBound
  split
  · next outside =>
    have faults : s.outOfBounds r m = true := by
      simpa only [State.outOfBounds, Bool.not_eq_true', Bool.and_eq_false_iff, decide_eq_false_iff_not, Int.not_le]
        using outside
    simp only [Instr.footprint, faults, if_true]
    exact ⟨_, rfl, .intCall s 5⟩
  · exact ⟨s, rfl, .quiet⟩

theorem execAam_storesWithin (base : Byte) (s : State) :
    ∃ t, execAam base s = .next t ∧ s.StoresWithin (Instr.footprint (.aam base) s).bytes t := by
  simp only [execAam, Instr.footprint]
  split
  · exact ⟨_, rfl, .intCall s 0⟩
  · exact ⟨_, rfl, .quiet⟩

theorem execInto_storesWithin (s : State) :
    ∃ t, execInto s = .next t ∧ s.StoresWithin (Instr.footprint .into s).bytes t := by
  simp only [execInto, Instr.footprint]
  split
  · exact ⟨_, rfl, .intCall s 4⟩
  · exact ⟨_, rfl, .quiet⟩

/-- Every instruction completes and stores within its footprint. The instructions of the last line store nothing and leave
the DMA controller alone. -/
theorem exec_storesWithin (i : Instr) (s : State) :
    ∃ t, exec i s = .next t ∧ s.StoresWithin (i.footprint s).bytes t :=
  match i with
  | .add f | .adc f => ⟨_, rfl, .addTo s (f.operands s) _ _⟩
  | .sub f | .sbb f => ⟨_, rfl, .subFrom s (f.operands s) _ _⟩
  | .or f | .and f | .xor f => ⟨_, rfl, .logic s _ (f.operands s) _⟩
  | .inc (.r16 _) | .dec (.r16 _) => ⟨_, rfl, .quiet rfl⟩
  | .inc (.rm (.b rm)) | .dec (.rm (.b rm)) => ⟨_, rfl, .trans (t := s.setFlags _) .quiet (.write8 _ (s.loc rm) _)⟩
  | .inc (.rm (.w rm)) | .dec (.rm (.w rm)) => ⟨_, rfl, .trans (t := s.setFlags _) .quiet (.write16 _ (s.loc rm) _)⟩
  | .neg (.b rm) => ⟨_, rfl, .subFrom s (.b (s.loc rm) _ _) _ _⟩
  | .neg (.w rm) => ⟨_, rfl, .subFrom s (.w (s.loc rm) _ _) _ _⟩
  | .not (.b rm) | .movRmReg (.b rm _) | .movRmImm (.b rm _) => ⟨_, rfl, .write8 s (s.loc rm) _⟩
  | .not (.w rm) | .movRmReg (.w rm _) | .movRmImm (.w rm _) | .movRmSreg rm _ => ⟨_, rfl, .write16 s (s.loc rm) _⟩
  | .movMoffsAcc .byte off => ⟨_, rfl, .writeByte s _ _⟩
  | .movMoffsAcc .word off => ⟨_, rfl, .writeWord s _ _⟩
  | .xchgRmReg (.b rm r) => ⟨_, rfl, .trans (.write8 s (s.loc rm) _) (.quiet rfl)⟩
  | .xchgRmReg (.w rm r) => ⟨_, rfl, .trans (.write16 s (s.loc rm) _) (.quiet rfl)⟩
  | .popRm rm => ⟨_, rfl, .trans (t := s.popped) .quiet (.write16 _ (s.loc rm) _)⟩
  | .pushReg _ | .pushSreg _ | .pushRm _ | .pushf | .pushImm16 _ | .pushImm8 _ => ⟨_, rfl, .push16 s _⟩
  | .pusha => ⟨_, rfl, .push _ (.push _ (.push _ (.push _ (.push _ (.push _ (.push _ (.push16 _ _)))))))⟩
  | .callNear _ | .callRm _ => ⟨_, rfl, .callNear s _⟩
  | .callFar _ _ | .callMem _ => ⟨_, rfl, .callFar s _ _⟩
  | .int3 | .int _ => ⟨_, rfl, .intCall s _⟩
  | .illegalOp _ | .illegalModrm _ _ _ => ⟨_, rfl, .illegal s⟩
  | .into => execInto_storesWithin s
  | .aam base => execAam_storesWithin base s
  | .div x => execDiv_storesWithin x s
  | .idiv x => execIdiv_storesWithin x s
  | .bound r m => execBound_storesWithin r m s
  | .enter size level => execEnter_storesWithin size level s
  | .rol x n | .ror x n | .rcl x n | .rcr x n | .shl x n | .shr x n | .sar x n => ⟨_, rfl, .shift s _ x n _⟩
  | .movsb => ⟨_, rfl, .repeated (.movsb s) _⟩
  | .movsw => ⟨_, rfl, .repeated (.movsw s) _⟩
  | .stosb => ⟨_, rfl, .repeated (.stosb s) _⟩
  | .stosw => ⟨_, rfl, .repeated (.stosw s) _⟩
  | .insb => ⟨_, rfl, .repeated (.insb s) _⟩
  | .insw => ⟨_, rfl, .repeated (.insw s) _⟩
  | .cmpsb | .cmpsw | .lodsb | .lodsw | .scasb | .scasw => ⟨_, rfl, .repeated .quiet _⟩
  | .outsb => ⟨_, rfl, .repeated (.quiet (dma := fun h => State.bounded_outByte h _ _)) _⟩
  | .outsw => ⟨_, rfl, .repeated (.quiet (dma := fun h => State.bounded_outWord h _ _)) _⟩
  | .outImm w _ | .outDx w => ⟨_, rfl, .quiet (dma := fun h => State.bounded_portOut h w _)⟩
  | .aaa => execAaa_storesWithin s
  | .aas => execAas_storesWithin s
  | .movRegRm (.b _ _) | .movRegRm (.w _ _) | .movRegImm (.b _ _) | .movRegImm (.w _ _) | .movAccMoffs .byte _
  | .movAccMoffs .word _ | .mul (.b _) | .mul (.w _) | .imul (.b _) | .imul (.w _)
  | .cmp _ | .test _ | .movSregRm _ _ | .popReg _ | .popSreg _ | .xchgAx _ | .nop | .lea _ _ | .lds _ _ | .les _ _
  | .xlat | .cbw | .cwd | .jo _ | .jno _ | .jb _ | .jnb _ | .jz _ | .jnz _ | .jbe _ | .ja _ | .js _ | .jns _ | .jp _
  | .jnp _ | .jl _ | .jge _ | .jle _ | .jg _ | .jmpShort _ | .jmpNear _ | .jmpFar _ _ | .jmpRm _ | .jmpMem _ | .ret
  | .retImm _ | .retf | .retfImm _ | .loop _ | .loopz _ | .loopnz _ | .jcxz _ | .imulImm16 _ _ _ | .imulImm8 _ _ _
  | .daa | .das | .aad _ | .clc | .stc | .cmc | .cld | .std | .cli | .sti | .lahf | .sahf | .popf
  | .inImm _ _ | .inDx _ | .iret | .hlt | .lock | .wait | .esc _ _ _ | .popa | .leave
  | .segEs | .segCs | .segSs | .segDs | .repne | .rep => ⟨_, rfl, .quiet⟩

theorem storesWithin_of_exec {i : Instr} {s t : State} (h : exec i s = .next t) :
    s.StoresWithin (i.footprint s).bytes t := by
  obtain ⟨u, executed, within⟩ := exec_storesWithin i s
  obtain rfl := Host.Outcome.next.inj (executed.symm.trans h)
  exact within

/-- Settles O58: an instruction stores within its footprint, and what is outside reads as before. -/
theorem frameOfMemory : Obligations.FrameOfMemory := fun _ _ _ h => (storesWithin_of_exec h).outside

end Sys2Proof.Machine
end

section
/-! PROOFS of the statements about every step: the relation holds over the parts of a slot, and the invariant, the
read-only bytes and the port table follow from it. -/

namespace Sys2Proof.Machine

/-! ### The events of the boundary (R501) -/

/-- Of the external events only `DmaRead` reaches the DMA controller. -/
theorem State.conserves_applyEvent (s : State) (e : Event) : s.Conserves (s.applyEvent e) := by
  cases e with
  | dmaRead channel => exact .quiet (dma := fun h => State.bounded_dmaAdvance h channel)
  | doirq line => exact .quiet rfl rfl rfl id
  | catchUp => exact .quiet rfl rfl rfl id
  | tick now => exact .quiet (dma := s.tick_dma now ▸ id)
  | poll now => exact .quiet (dma := s.poll_dma now ▸ id)
  | stop => exact .quiet rfl rfl rfl id

theorem State.conserves_applyEvents (s : State) (l : List Event) : s.Conserves (s.applyEvents l) := by
  induction l generalizing s with
  | nil => exact .quiet rfl rfl rfl id
  | cons e rest ih => exact (s.conserves_applyEvent e).trans (ih _)

theorem State.conserves_boundary (s : State) : s.Conserves s.boundary := by
  unfold State.boundary
  split
  · exact .quiet
  · exact .trans (t := s.setEvents _) .quiet (State.conserves_applyEvents _ _)

/-! ### The parts of a slot (R500) -/

theorem State.conserves_intCall (s : State) (n : Byte) : s.Conserves (s.intCall n) :=
  (StoresWithin.intCall s n).toConserves

theorem exec_conserves {i : Instr} {s t : State} (h : exec i s = .next t) : s.Conserves t :=
  (storesWithin_of_exec h).toConserves

theorem State.conserves_fetch {s t : State} {i : Instr} (h : s.fetch = some (i, t)) : s.Conserves t := by
  unfold State.fetch at h
  split at h
  · cases h; exact .quiet
  · cases h

/-- Prefixes and the instruction after them are fetched and executed one after the other. -/
theorem runItems_conserves {fuel : Nat} {s t : State} (h : runItems fuel s = .next t) : s.Conserves t := by
  induction fuel generalizing s with
  | zero => cases h
  | succ fuel ih =>
    unfold runItems at h
    split at h
    · cases h
    · next i u fetched =>
      refine (State.conserves_fetch fetched).trans ?_
      split at h
      · split at h
        · next prefixed => exact (exec_conserves prefixed).trans (ih h)
        · cases h
        · cases h
      · exact exec_conserves h

theorem State.conserves_takeTrap (s : State) : s.Conserves s.takeTrap := by
  unfold State.takeTrap
  dsimp only
  split
  · exact (s.conserves_intCall 1).trans .quiet
  · exact .quiet

theorem State.conserves_takeInterrupt (s : State) : s.Conserves s.takeInterrupt :=
  .trans (t := (s.setHalt false).setPic s.pic.acknowledged) .quiet (State.conserves_intCall _ _)

theorem State.conserves_slot {s t : State} (h : s.slot = .next t) : s.Conserves t := by
  refine s.conserves_takeTrap.trans ?_
  unfold State.slot at h
  dsimp only at h
  split at h
  · cases h; exact .quiet
  · split at h
    · cases h; exact (State.conserves_takeInterrupt _).trans .quiet
    · split at h
      · cases h; exact .quiet
      · split at h
        · next run =>
          cases h
          exact .trans (t := s.takeTrap.beginDecode) .quiet ((runItems_conserves run).trans .quiet)
        · cases h
        · cases h

/-! ### The step -/

theorem step_conserves {s t : State} (h : step s = .next t) : s.Conserves t :=
  s.conserves_boundary.trans (State.conserves_slot h)

/-- Settles O3: the three parts of the invariant are among what a step conserves. -/
theorem stepKeepsInvariant : Obligations.StepKeepsInvariant := fun _ _ inv h => (step_conserves h).inv inv

/-- Settles O4: a step conserves the read-only map, the bytes it protects and the port table. -/
theorem stepKeepsReadOnlyBytesAndPorts : Obligations.StepKeepsReadOnlyBytesAndPorts := fun _ _ h =>
  have kept := step_conserves h
  ⟨kept.ro, kept.ports, kept.readOnlyByte⟩

/-- Settles O2: at power-on every DMA count is 0, and memory and the map are the given ones. -/
theorem resetMeetsInvariant : Obligations.ResetMeetsInvariant := by
  have dma : Dma.reset.bounded := ⟨Nat.zero_le _, Nat.zero_le _, Nat.zero_le _, Nat.zero_le _⟩
  exact ⟨⟨rfl, rfl, dma⟩, fun _ _ _ memory readOnly => ⟨memory, readOnly, dma⟩⟩

end Sys2Proof.Machine
end

section
/-! PROOFS of the statements that decoding undoes encoding (spec/30_encoding.md R101 to R125) and about the examples of R130: the
ModRM byte, what follows an opcode, the rows of the opcode map, then one line for each instruction. -/

namespace Sys2Proof

open Machine (wordOf low8 high8)

/-! ### Numbers of registers and formulas (R20, R21, R23, R108) -/

@[simp] theorem Reg16.ofBits_toBits (r : Reg16) : Reg16.ofBits r.toBits = r := by cases r <;> rfl
@[simp] theorem Reg8.ofBits_toBits (r : Reg8) : Reg8.ofBits r.toBits = r := by cases r <;> rfl
@[simp] theorem SReg.ofBits_toBits (r : SReg) : SReg.ofBits r.toBits = some r := by cases r <;> rfl
@[simp] theorem EaBase.ofBits_toBits (b : EaBase) : EaBase.ofBits b.toBits = b := by cases b <;> rfl

@[simp] theorem rm8_map_toBits (rm : RM8) : rm8 (rm.map Reg8.toBits) = rm := by cases rm <;> simp [rm8, RM.map]
@[simp] theorem rm16_map_toBits (rm : RM16) : rm16 (rm.map Reg16.toBits) = rm := by cases rm <;> simp [rm16, RM.map]

@[simp] theorem RM.wellFormed_map {ρ σ : Type} (f : ρ → σ) (rm : RM ρ) : (rm.map f).wellFormed = rm.wellFormed := by
  cases rm <;> rfl
@[simp] theorem RM.isReg_map {ρ σ : Type} (f : ρ → σ) (rm : RM ρ) : (rm.map f).isReg = rm.isReg := by
  cases rm <;> rfl

@[simp] theorem wordOf_high8_low8 (v : Word) : wordOf (high8 v) (low8 v) = v := Machine.high8_append_low8 v

/-- Without displacement every formula is encodable but that of number 6, which is the direct address (R107, R108). -/
theorem MemOp.wellFormed_based_no (b : EaBase) : (MemOp.based b .no).wellFormed = true ↔ b.toBits ≠ 6#3 := by
  cases b <;> decide

/-! ### ModRM (R107) -/

@[simp] theorem modrmByte_mode (mode : BitVec 2) (reg rm : BitVec 3) :
    (modrmByte mode reg rm).extractLsb' 6 2 = mode := by
  revert mode reg rm; decide
@[simp] theorem modrmByte_reg (mode : BitVec 2) (reg rm : BitVec 3) :
    (modrmByte mode reg rm).extractLsb' 3 3 = reg := by
  revert mode reg rm; decide
@[simp] theorem modrmByte_rm (mode : BitVec 2) (reg rm : BitVec 3) :
    (modrmByte mode reg rm).extractLsb' 0 3 = rm := BitVec.extractLsb'_append_eq_right

theorem decodeModrm_encodeModrm (reg : BitVec 3) {rm : RM (BitVec 3)} (h : rm.wellFormed = true) (rest : List Byte) :
    decodeModrm (encodeModrm reg rm ++ rest) = .ok (reg, rm, rest) := by
  cases rm with
  | reg n => simp [encodeModrm, decodeModrm]
  | mem m =>
    cases m with
    | direct a => simp [encodeModrm, decodeModrm, wordBytes]
    | based b d =>
      cases d with
      | no =>
        have indirect : b.toBits ≠ 6#3 := (MemOp.wellFormed_based_no b).mp h
        simp [encodeModrm, decodeModrm, indirect]
      | d8 d => simp [encodeModrm, decodeModrm]
      | d16 d => simp [encodeModrm, decodeModrm, wordBytes]

theorem decodeModrm_encodeRm8 (reg : BitVec 3) {rm : RM8} (h : rm.wellFormed = true) (rest : List Byte) :
    decodeModrm (encodeRm8 reg rm ++ rest) = .ok (reg, rm.map Reg8.toBits, rest) :=
  decodeModrm_encodeModrm reg ((RM.wellFormed_map _ rm).trans h) rest

theorem decodeModrm_encodeRm16 (reg : BitVec 3) {rm : RM16} (h : rm.wellFormed = true) (rest : List Byte) :
    decodeModrm (encodeRm16 reg rm ++ rest) = .ok (reg, rm.map Reg16.toBits, rest) :=
  decodeModrm_encodeModrm reg ((RM.wellFormed_map _ rm).trans h) rest

/-! ### Rows with a ModRM byte -/

/-- The row of an opcode takes a ModRM byte, and with these operands in it this tail follows (R117). -/
def ModrmRow (ext : Bool) (op : Byte) (reg : BitVec 3) (rm : RM (BitVec 3)) (t : Tail) : Prop :=
  ∃ k, opcodeRow ext op = .modrm k ∧ k reg rm = t

theorem ModrmRow.decode {ext : Bool} {op : Byte} {reg : BitVec 3} {rm : RM (BitVec 3)} {t : Tail}
    (row : ModrmRow ext op reg rm t) {bytes rest : List Byte} (h : decodeModrm bytes = .ok (reg, rm, rest)) :
    decodeWith ext (op :: bytes) = decodeTail t rest := by
  obtain ⟨k, row, rfl⟩ := row
  simp [decodeWith, row, h]

/-! ### The bytes of an instruction -/

/-- Whatever follows them, these bytes decode to the instruction. -/
def Decodes (ext : Bool) (bytes : List Byte) (i : Instr) : Prop :=
  ∀ rest, decodeWith ext (bytes ++ rest) = .ok (i, rest)

/-- Whatever follows them, these bytes complete a tail to the instruction. -/
def Tail.Reads (t : Tail) (bytes : List Byte) (i : Instr) : Prop :=
  ∀ rest, decodeTail t (bytes ++ rest) = .ok (i, rest)

theorem Tail.reads_imm8 (k : Byte → Instr) (b : Byte) : (Tail.imm8 k).Reads [b] (k b) := fun _ => rfl

theorem Tail.reads_imm16 (k : Word → Instr) (v : Word) : (Tail.imm16 k).Reads (wordBytes v) (k v) := fun rest => by
  simp [decodeTail, wordBytes]

theorem Tail.reads_imm16imm8 (k : Word → Byte → Instr) (v : Word) (b : Byte) :
    (Tail.imm16imm8 k).Reads (wordBytes v ++ [b]) (k v b) := fun rest => by
  simp [decodeTail, wordBytes]

theorem Tail.reads_far (k : Word → Word → Instr) (off seg : Word) :
    (Tail.far k).Reads (wordBytes off ++ wordBytes seg) (k off seg) := fun rest => by
  simp [decodeTail, wordBytes]

namespace Decodes
variable {ext : Bool} {op opB opW : Byte} {reg : BitVec 3} {i : Instr}

/-- An opcode without ModRM, and an immediate. -/
theorem ofPlain {t : Tail} {bytes : List Byte} (reads : t.Reads bytes i) (row : opcodeRow ext op = .plain t) :
    Decodes ext (op :: bytes) i := fun rest => by
  simpa [decodeWith, row] using reads rest

theorem ofImm16 {k : Word → Instr} {v : Word} (row : opcodeRow ext op = .plain (.imm16 k)) :
    Decodes ext (op :: wordBytes v) (k v) := ofPlain (Tail.reads_imm16 k v) row

/-- An opcode and an r/m operand. -/
theorem ofMem {m : MemOp} (h : m.wellFormed = true) (row : ModrmRow ext op reg (.mem m) (.done i)) :
    Decodes ext (op :: encodeMem reg m) i := fun rest => row.decode (decodeModrm_encodeModrm reg (rm := .mem m) h rest)

theorem ofRm8 {rm : RM8} (h : rm.wellFormed = true) (row : ModrmRow ext op reg (rm.map Reg8.toBits) (.done i)) :
    Decodes ext (op :: encodeRm8 reg rm) i := fun rest => row.decode (decodeModrm_encodeRm8 reg h rest)

theorem ofRm16 {rm : RM16} (h : rm.wellFormed = true) (row : ModrmRow ext op reg (rm.map Reg16.toBits) (.done i)) :
    Decodes ext (op :: encodeRm16 reg rm) i := fun rest => row.decode (decodeModrm_encodeRm16 reg h rest)

/-- An opcode, an r/m operand and an immediate. -/
theorem ofRm8Imm {t : Tail} {bytes : List Byte} {rm : RM8} (h : rm.wellFormed = true) (reads : t.Reads bytes i)
    (row : ModrmRow ext op reg (rm.map Reg8.toBits) t) :
    Decodes ext (op :: (encodeRm8 reg rm ++ bytes)) i := fun rest => by
  rw [List.cons_append, List.append_assoc, row.decode (decodeModrm_encodeRm8 reg h _), reads]

theorem ofRm16Imm {t : Tail} {bytes : List Byte} {rm : RM16} (h : rm.wellFormed = true) (reads : t.Reads bytes i)
    (row : ModrmRow ext op reg (rm.map Reg16.toBits) t) :
    Decodes ext (op :: (encodeRm16 reg rm ++ bytes)) i := fun rest => by
  rw [List.cons_append, List.append_assoc, row.decode (decodeModrm_encodeRm16 reg h _), reads]

/-! ### Operand forms -/

theorem ofRmForm {f : RmForm → Instr} {x : RmForm} (h : x.wellFormed = true)
    (b : ∀ rm, ModrmRow ext opB reg rm (.done (f (.b (rm8 rm)))))
    (w : ∀ rm, ModrmRow ext opW reg rm (.done (f (.w (rm16 rm))))) :
    Decodes ext (encodeRmForm opB opW reg x) (f x) :=
  match x with
  | .b rm => ofRm8 h (by simpa using b (rm.map Reg8.toBits))
  | .w rm => ofRm16 h (by simpa using w (rm.map Reg16.toBits))

theorem ofRmReg {f : RmReg → Instr} {x : RmReg} (h : x.wellFormed = true)
    (b : ∀ reg rm, ModrmRow ext opB reg rm (.done (f (.b (rm8 rm) (Reg8.ofBits reg)))))
    (w : ∀ reg rm, ModrmRow ext opW reg rm (.done (f (.w (rm16 rm) (Reg16.ofBits reg))))) :
    Decodes ext (encodeRmReg opB opW x) (f x) :=
  match x with
  | .b rm r => ofRm8 h (by simpa using b r.toBits (rm.map Reg8.toBits))
  | .w rm r => ofRm16 h (by simpa using w r.toBits (rm.map Reg16.toBits))

theorem ofRmImm {f : RmImm → Instr} {x : RmImm} (h : x.wellFormed = true)
    (b : ∀ rm, ModrmRow ext opB reg rm (.imm8 fun i => f (.b (rm8 rm) i)))
    (w : ∀ rm, ModrmRow ext opW reg rm (.imm16 fun i => f (.w (rm16 rm) i))) :
    Decodes ext (encodeRmImm opB opW reg x) (f x) :=
  match x with
  | .b rm i => ofRm8Imm h (Tail.reads_imm8 (fun i => f (.b rm i)) i) (by simpa using b (rm.map Reg8.toBits))
  | .w rm i => ofRm16Imm h (Tail.reads_imm16 (fun i => f (.w rm i)) i) (by simpa using w (rm.map Reg16.toBits))

theorem ofAccImm {f : AccImm → Instr} {x : AccImm} (b : opcodeRow ext opB = .plain (.imm8 fun i => f (.b i)))
    (w : opcodeRow ext opW = .plain (.imm16 fun i => f (.w i))) : Decodes ext (encodeAccImm opB opW x) (f x) :=
  match x with
  | .b i => ofPlain (Tail.reads_imm8 _ i) b
  | .w _ => ofImm16 w

end Decodes

/-! ### The opcode map by its fields -/

theorem opcodeRow_alu (ext : Bool) (o lo : BitVec 3) : opcodeRow ext (0#2 ++ o ++ lo) = rowAlu o lo := by
  have alu : ((0#2 ++ o ++ lo).extractLsb' 4 4).toNat < 4 := by revert o lo; decide
  have number : (0#2 ++ o ++ lo).extractLsb' 3 3 = o := by revert o lo; decide
  have low : (0#2 ++ o ++ lo).extractLsb' 0 3 = lo := BitVec.extractLsb'_append_eq_right
  unfold opcodeRow
  rw [number, low]
  generalize ((0#2 ++ o ++ lo).extractLsb' 4 4).toNat = high at alu
  match high, alu with
  | 0, _ | 1, _ | 2, _ | 3, _ => rfl

theorem modrmRow_esc (ext : Bool) (sel reg : BitVec 3) (rm : RM (BitVec 3)) :
    ModrmRow ext (0x1B#5 ++ sel) reg rm (.done (.esc sel reg (rm16 rm))) := by
  obtain ⟨n⟩ := sel
  fin_cases n <;> exact ⟨_, rfl, rfl⟩

/-- A bit vector is the literal of its number. -/
theorem eq_ofNat_of_toNat {w n : Nat} {v : BitVec w} (h : v.toNat = n) : v = BitVec.ofNat w n := by
  rw [← h, BitVec.ofNat_toNat, BitVec.setWidth_eq]

/-- `EXT186` matters for the encodings it adds only (R460). -/
theorem opcodeRow_ext {op : Byte} (h : illegalFirstByte false op = false) (ext : Bool) :
    opcodeRow ext op = opcodeRow true op := by
  simp [opcodeRow, row6, rowC, h]

/-- An illegal first byte is an item of its own (R125, R460). -/
theorem opcodeRow_illegalOp {ext : Bool} {op : Byte} (h : illegalFirstByte ext op = true) :
    opcodeRow ext op = .plain (.done (.illegalOp op)) := by
  simp only [illegalFirstByte, List.contains_eq_mem, List.mem_cons, List.not_mem_nil, Bool.or_eq_true,
    Bool.and_eq_true, Bool.not_eq_true', decide_eq_true_eq, or_false] at h
  obtain always | ⟨rfl, only186⟩ := h
  · rcases always with e | e | e | e | e | e | e | e <;> cases eq_ofNat_of_toNat e <;> cases ext <;> rfl
  · rcases only186 with e | e | e | e | e | e | e | e | e | e | e <;> cases eq_ofNat_of_toNat e <;> rfl

theorem RM.isReg_iff {ρ : Type} {rm : RM ρ} : rm.isReg = true ↔ ∃ r, rm = .reg r := by
  cases rm <;> simp [RM.isReg]

theorem SReg.ofBits_eq_none_iff {n : BitVec 3} : SReg.ofBits n = none ↔ 4 ≤ n.toNat := by
  revert n; decide

/-- The illegal second bytes, by what is wrong with the ModRM byte (R125). -/
theorem illegalSecondByte_cases {ext : Bool} {op : Byte} {reg : BitVec 3} {isReg : Bool}
    (h : illegalSecondByte ext op reg isReg = true) :
    (isReg = true ∧ (op = 0x8D ∨ op = 0xC4 ∨ op = 0xC5 ∨ op = 0x62 ∧ ext = true)) ∨
    (4 ≤ reg.toNat ∧ (op = 0x8C ∨ op = 0x8E)) ∨
    (reg ≠ 0 ∧ (op = 0x8F ∨ op = 0xC6 ∨ op = 0xC7)) ∨
    (reg = 6 ∧ (op = 0xD0 ∨ op = 0xD1 ∨ op = 0xD2 ∨ op = 0xD3 ∨ (op = 0xC0 ∨ op = 0xC1) ∧ ext = true)) ∨
    (reg = 1 ∧ (op = 0xF6 ∨ op = 0xF7)) ∨
    (2 ≤ reg.toNat ∧ op = 0xFE) ∨
    (op = 0xFF ∧ (reg = 7 ∨ isReg = true ∧ (reg = 3 ∨ reg = 5))) := by
  unfold illegalSecondByte at h
  simp only [← BitVec.toNat_inj, ne_eq]
  split at h <;> simp_all

/-- An illegal second byte ends the item after the displacement (R119 to R125). -/
theorem modrmRow_illegalModrm {ext : Bool} {op : Byte} {reg : BitVec 3} {rm : RM (BitVec 3)}
    (h : illegalSecondByte ext op reg rm.isReg = true) :
    ModrmRow ext op reg rm (.done (.illegalModrm op reg (rm16 rm))) := by
  obtain ⟨isReg, ops⟩ | ⟨noSegment, ops⟩ | ⟨nonzero, ops⟩ | ⟨rfl, ops⟩ | ⟨rfl, ops⟩ | ⟨high, rfl⟩ | ⟨rfl, field⟩ :=
    illegalSecondByte_cases h
  · obtain ⟨r, rfl⟩ := RM.isReg_iff.mp isReg
    obtain rfl | rfl | rfl | ⟨rfl, rfl⟩ := ops
    · exact ⟨_, rfl, rfl⟩
    · exact ⟨_, opcodeRow_ext rfl ext, rfl⟩
    · exact ⟨_, opcodeRow_ext rfl ext, rfl⟩
    · exact ⟨_, rfl, rfl⟩
  · obtain rfl | rfl := ops <;> exact ⟨_, rfl, by simp [SReg.ofBits_eq_none_iff.mpr noSegment]⟩
  · obtain rfl | rfl | rfl := ops
    · exact ⟨_, rfl, congrArg Tail.done (if_neg nonzero)⟩
    · exact ⟨_, opcodeRow_ext rfl ext, if_neg nonzero⟩
    · exact ⟨_, opcodeRow_ext rfl ext, if_neg nonzero⟩
  · obtain rfl | rfl | rfl | rfl | ⟨rfl | rfl, rfl⟩ := ops <;> exact ⟨_, rfl, rfl⟩
  · obtain rfl | rfl := ops <;> exact ⟨_, rfl, rfl⟩
  · refine ⟨_, rfl, ?_⟩
    split
    · omega
    · omega
    · rfl
  · obtain rfl | ⟨isReg, field⟩ := field
    · exact ⟨_, rfl, rfl⟩
    · obtain ⟨r, rfl⟩ := RM.isReg_iff.mp isReg
      obtain rfl | rfl := field <;> exact ⟨_, rfl, rfl⟩

/-! ### Families of instructions (R150, R330) -/

variable {ext : Bool}

theorem decodes_encodeAlu (o : BitVec 3) {f : AluForm} (h : f.wellFormed = true) :
    Decodes ext (encodeAlu o f) (aluInstr o f) := by
  have row (lo : BitVec 3) := opcodeRow_alu ext o lo
  cases f with
  | rmReg x =>
    exact .ofRmReg (f := fun x => aluInstr o (.rmReg x)) h (fun _ _ => ⟨_, row 0, rfl⟩) (fun _ _ => ⟨_, row 1, rfl⟩)
  | regRm x =>
    exact .ofRmReg (f := fun x => aluInstr o (.regRm x)) h (fun _ _ => ⟨_, row 2, rfl⟩) (fun _ _ => ⟨_, row 3, rfl⟩)
  | accImm x => exact .ofAccImm (f := fun x => aluInstr o (.accImm x)) (row 4) (row 5)
  | rmImm x =>
    exact .ofRmImm (f := fun x => aluInstr o (.rmImm x)) h (fun _ => ⟨_, rfl, rfl⟩) (fun _ => ⟨_, rfl, rfl⟩)
  | rmImm8s rm i =>
    exact .ofRm16Imm h (Tail.reads_imm8 (fun i => aluInstr o (.rmImm8s rm i)) i) ⟨_, rfl, by simp⟩

theorem decodes_encodeShift {reg : BitVec 3} {f : RmForm → ShiftCount → Instr} {x : RmForm} {n : ShiftCount}
    (member : ∀ x n, shiftInstr reg x n = some (f x n)) (h : (x.wellFormed && n.legal ext) = true) :
    Decodes ext (encodeShift reg x n) (f x n) := by
  obtain ⟨hx, hn⟩ := Bool.and_eq_true_iff.mp h
  have legal : reg ≠ 6 := by rintro rfl; cases member x n
  have tail (op : Byte) (rm : RM (BitVec 3)) (x : RmForm) (n : ShiftCount) :
      shiftTail op reg rm x n = .done (f x n) := by
    simp [shiftTail, member]
  have immTail (op : Byte) (rm : RM (BitVec 3)) (x : RmForm) :
      shiftImmTail op reg rm x = .imm8 fun i => f x (.imm i) := by
    simp only [shiftImmTail, if_neg legal, member, Option.getD_some]
  cases n with
  | one => exact .ofRmForm (f := fun x => f x .one) hx (fun _ => ⟨_, rfl, tail ..⟩) (fun _ => ⟨_, rfl, tail ..⟩)
  | cl => exact .ofRmForm (f := fun x => f x .cl) hx (fun _ => ⟨_, rfl, tail ..⟩) (fun _ => ⟨_, rfl, tail ..⟩)
  | imm i =>
    cases show ext = true from hn
    cases x with
    | b rm => exact .ofRm8Imm hx (Tail.reads_imm8 (fun i => f (.b rm) (.imm i)) i) ⟨_, rfl, by simp [immTail]⟩
    | w rm => exact .ofRm16Imm hx (Tail.reads_imm8 (fun i => f (.w rm) (.imm i)) i) ⟨_, rfl, by simp [immTail]⟩

/-! ### Every instruction -/

/-- The bytes of a well-formed instruction decode to it: by the instruction's family when it has operands, and by running the
decoder when its bytes are given up to an immediate byte. -/
theorem decodes_encode (i : Instr) (h : i.wellFormedWith ext = true) : Decodes ext (encode i) i :=
  match i with
  | .add _ => decodes_encodeAlu 0 h
  | .or _ => decodes_encodeAlu 1 h
  | .adc _ => decodes_encodeAlu 2 h
  | .sbb _ => decodes_encodeAlu 3 h
  | .and _ => decodes_encodeAlu 4 h
  | .sub _ => decodes_encodeAlu 5 h
  | .xor _ => decodes_encodeAlu 6 h
  | .cmp _ => decodes_encodeAlu 7 h
  | .inc (.rm _) => .ofRmForm (f := fun x => .inc (.rm x)) h (fun _ => ⟨_, rfl, rfl⟩) (fun _ => ⟨_, rfl, rfl⟩)
  | .dec (.rm _) => .ofRmForm (f := fun x => .dec (.rm x)) h (fun _ => ⟨_, rfl, rfl⟩) (fun _ => ⟨_, rfl, rfl⟩)
  | .neg _ | .not _ | .mul _ | .imul _ | .div _ | .idiv _ =>
    .ofRmForm h (fun _ => ⟨_, rfl, rfl⟩) (fun _ => ⟨_, rfl, rfl⟩)
  | .test (.rmReg _) =>
    .ofRmReg (f := fun x => .test (.rmReg x)) h (fun _ _ => ⟨_, rfl, rfl⟩) (fun _ _ => ⟨_, rfl, rfl⟩)
  | .test (.accImm _) => .ofAccImm (f := fun x => .test (.accImm x)) rfl rfl
  | .test (.rmImm _) =>
    .ofRmImm (f := fun x => .test (.rmImm x)) h (fun _ => ⟨_, rfl, rfl⟩) (fun _ => ⟨_, rfl, rfl⟩)
  | .movRmReg _ | .movRegRm _ | .xchgRmReg _ => .ofRmReg h (fun _ _ => ⟨_, rfl, rfl⟩) (fun _ _ => ⟨_, rfl, rfl⟩)
  | .movRmImm _ => .ofRmImm h (fun _ => ⟨_, opcodeRow_ext rfl ext, rfl⟩) (fun _ => ⟨_, opcodeRow_ext rfl ext, rfl⟩)
  | .rol .. | .ror .. | .rcl .. | .rcr .. | .shl .. | .shr .. | .sar .. => decodes_encodeShift (fun _ _ => rfl) h
  | .movSregRm .. | .movRmSreg .. => .ofRm16 h ⟨_, rfl, by simp⟩
  | .pushRm _ | .popRm _ | .jmpRm _ | .callRm _ => .ofRm16 h ⟨_, rfl, by simp [group5Instr]⟩
  | .esc sel reg rm => .ofRm16 h (by simpa using modrmRow_esc ext sel reg (rm.map Reg16.toBits))
  | .lea .. | .jmpMem _ | .callMem _ => .ofMem h ⟨_, rfl, by simp [group5Instr]⟩
  | .lds .. | .les .. => .ofMem h ⟨_, opcodeRow_ext rfl ext, by simp⟩
  | .movAccMoffs .byte _ | .movAccMoffs .word _ | .movMoffsAcc .byte _ | .movMoffsAcc .word _ | .jmpNear _
  | .callNear _ => .ofImm16 rfl
  | .retImm _ | .retfImm _ => .ofImm16 (opcodeRow_ext rfl ext)
  | .jmpFar .. | .callFar .. => .ofPlain (Tail.reads_far _ _ _) rfl
  | .movRegImm (.b r _) => by cases r <;> exact fun _ => rfl
  | .movRegImm (.w r _) => by cases r <;> exact Decodes.ofImm16 (k := fun v => .movRegImm (.w _ v)) rfl
  | .inc (.r16 r) | .dec (.r16 r) | .pushReg r | .popReg r | .pushSreg r => by cases r <;> exact fun _ => rfl
  | .popSreg .es | .popSreg .ss | .popSreg .ds | .xchgAx .cx | .xchgAx .dx | .xchgAx .bx | .xchgAx .sp | .xchgAx .bp
  | .xchgAx .si | .xchgAx .di => fun _ => rfl
  | .popSreg .cs | .xchgAx .ax => absurd h Bool.false_ne_true
  | .illegalOp _ => .ofPlain (fun _ => rfl) (opcodeRow_illegalOp h)
  | .illegalModrm op reg rm =>
    have ⟨operand, second⟩ := Bool.and_eq_true_iff.mp h
    .ofRm16 operand (by simpa using modrmRow_illegalModrm (rm := rm.map Reg16.toBits) (by simpa using second))
  | .bound .. => by
    obtain ⟨rfl, operand⟩ := Bool.and_eq_true_iff.mp h
    exact .ofMem operand ⟨_, rfl, by simp⟩
  | .imulImm16 r rm v => by
    obtain ⟨rfl, operand⟩ := Bool.and_eq_true_iff.mp h
    exact .ofRm16Imm operand (Tail.reads_imm16 (.imulImm16 r rm) v) ⟨_, rfl, by simp⟩
  | .imulImm8 r rm v => by
    obtain ⟨rfl, operand⟩ := Bool.and_eq_true_iff.mp h
    exact .ofRm16Imm operand (Tail.reads_imm8 (.imulImm8 r rm) v) ⟨_, rfl, by simp⟩
  | .pushImm16 _ => by cases show ext = true from h; exact .ofImm16 rfl
  | .enter .. => by cases show ext = true from h; exact .ofPlain (Tail.reads_imm16imm8 _ _ _) rfl
  | .pusha | .popa | .leave | .pushImm8 _ => by cases show ext = true from h; exact fun _ => rfl
  | .ret | .retf | .int3 | .int _ | .into | .iret | .insb | .insw | .outsb | .outsw => by cases ext <;> exact fun _ => rfl
  | .inImm .byte _ | .inImm .word _ | .outImm .byte _ | .outImm .word _ | .inDx .byte | .inDx .word | .outDx .byte
  | .outDx .word | .nop | .xlat | .cbw | .cwd | .jo _ | .jno _ | .jb _ | .jnb _ | .jz _ | .jnz _ | .jbe _ | .ja _
  | .js _ | .jns _ | .jp _ | .jnp _ | .jl _ | .jge _ | .jle _ | .jg _ | .jmpShort _ | .loop _ | .loopz _ | .loopnz _
  | .jcxz _ | .movsb | .movsw | .cmpsb | .cmpsw | .stosb | .stosw | .lodsb | .lodsw | .scasb | .scasw | .daa | .das
  | .aaa | .aas | .aam _ | .aad _ | .clc | .stc | .cmc | .cld | .std | .cli | .sti | .lahf | .sahf | .pushf | .popf
  | .hlt | .lock | .wait | .segEs | .segCs | .segSs | .segDs | .repne | .rep => fun _ => rfl

/-- Settles O6: the bytes of an instruction decode to it, by its family or its opcode. -/
theorem decodeOfEncode : Obligations.DecodeOfEncode := fun _ i rest h => decodes_encode i h rest

/-- Settles O8: the decoder runs on each of the printed examples. -/
theorem encodingExamples : Obligations.EncodingExamples :=
  ⟨rfl, rfl, rfl, rfl, rfl, ⟨rfl, rfl⟩, rfl, rfl, rfl, ⟨rfl, rfl⟩, rfl, rfl, rfl, rfl, by decide, by decide⟩

end Sys2Proof
end

section
/-! PROOFS of the statement that decoding is total (spec/30_encoding.md R102, R116): every row of the opcode map leads to a
well-formed instruction within six bytes. -/

namespace Sys2Proof

open Machine (wordOf low8 high8)

variable {ext : Bool}

/-! ### Operands and immediates (R107, R114, R115) -/

@[simp] theorem wellFormed_rm8 (rm : RM (BitVec 3)) : (rm8 rm).wellFormed = rm.wellFormed := RM.wellFormed_map _ rm
@[simp] theorem wellFormed_rm16 (rm : RM (BitVec 3)) : (rm16 rm).wellFormed = rm.wellFormed := RM.wellFormed_map _ rm
@[simp] theorem isReg_rm16 (rm : RM (BitVec 3)) : (rm16 rm).isReg = rm.isReg := RM.isReg_map _ rm

theorem EaBase.toBits_ofBits (n : BitVec 3) : (EaBase.ofBits n).toBits = n := by
  revert n; decide

theorem Reg16.ofBits_ne_ax {n : BitVec 3} (h : n.toNat ≠ 0) : Reg16.ofBits n ≠ .ax := by
  revert n; decide

theorem MemOp.wellFormed_disp (b : EaBase) {d : Disp} (h : d ≠ .no) : (MemOp.based b d).wellFormed = true := by
  cases d with
  | no => exact absurd rfl h
  | d8 _ | d16 _ => cases b <;> rfl

/-- Three bytes hold a ModRM byte with its displacement. -/
theorem decodeModrm_total {bytes : List Byte} (enough : 3 ≤ bytes.length) :
    ∃ reg rm n, n ≤ 3 ∧ decodeModrm bytes = .ok (reg, rm, bytes.drop n) ∧ rm.wellFormed = true := by
  match bytes, enough with
  | b :: lo :: hi :: rest, _ =>
    simp only [decodeModrm]
    split
    · split
      · exact ⟨_, _, 3, by decide, rfl, rfl⟩
      · next indirect =>
        exact ⟨_, _, 1, by decide, rfl, (MemOp.wellFormed_based_no _).mpr (by rwa [EaBase.toBits_ofBits])⟩
    · exact ⟨_, _, 2, by decide, rfl, MemOp.wellFormed_disp _ nofun⟩
    · exact ⟨_, _, 3, by decide, rfl, MemOp.wellFormed_disp _ nofun⟩
    · exact ⟨_, _, 1, by decide, rfl, rfl⟩

/-- A tail reads at most n bytes, and the instruction it completes is well-formed. -/
def Tail.Fits (ext : Bool) (n : Nat) : Tail → Prop
  | .done i => i.wellFormedWith ext = true
  | .imm8 k => 1 ≤ n ∧ ∀ b, (k b).wellFormedWith ext = true
  | .imm16 k => 2 ≤ n ∧ ∀ v, (k v).wellFormedWith ext = true
  | .imm16imm8 k => 3 ≤ n ∧ ∀ v b, (k v b).wellFormedWith ext = true
  | .far k => 4 ≤ n ∧ ∀ off seg, (k off seg).wellFormedWith ext = true

theorem decodeTail_total {n : Nat} {t : Tail} (h : t.Fits ext n) {bytes : List Byte} (enough : n ≤ bytes.length) :
    ∃ i m, m ≤ n ∧ decodeTail t bytes = .ok (i, bytes.drop m) ∧ i.wellFormedWith ext = true := by
  cases t with
  | done i => exact ⟨i, 0, Nat.zero_le n, rfl, h⟩
  | imm8 k =>
    match bytes, enough.trans' h.1 with
    | b :: _, _ => exact ⟨_, 1, h.1, rfl, h.2 b⟩
  | imm16 k =>
    match bytes, enough.trans' h.1 with
    | lo :: hi :: _, _ => exact ⟨_, 2, h.1, rfl, h.2 (wordOf hi lo)⟩
  | imm16imm8 k =>
    match bytes, enough.trans' h.1 with
    | lo :: hi :: b :: _, _ => exact ⟨_, 3, h.1, rfl, h.2 (wordOf hi lo) b⟩
  | far k =>
    match bytes, enough.trans' h.1 with
    | lo :: hi :: slo :: shi :: _, _ => exact ⟨_, 4, h.1, rfl, h.2 (wordOf hi lo) (wordOf shi slo)⟩

/-! ### Groups of instructions and illegal members (R118 to R125) -/

@[simp] theorem wellFormed_aluInstr (o : BitVec 3) (f : AluForm) :
    (aluInstr o f).wellFormedWith ext = f.wellFormed := by
  unfold aluInstr
  split <;> rfl

theorem wellFormed_jccInstr (cc : BitVec 4) (rel : Byte) : (jccInstr cc rel).wellFormedWith ext = true := by
  unfold jccInstr
  split <;> rfl

section
variable {op : Byte} {reg : BitVec 3} {rm : RM (BitVec 3)} {x : RmForm} {n : Nat}

theorem illegalModrm_fits (operand : rm.wellFormed = true) (second : illegalSecondByte ext op reg rm.isReg = true) :
    (Tail.done (.illegalModrm op reg (rm16 rm))).Fits ext n := by
  simp [Tail.Fits, Instr.wellFormedWith, operand, second]

/-- The opcodes whose reg field must be 0. -/
theorem illegalModrm_fits_of_ne_zero (operand : rm.wellFormed = true) (nonzero : reg ≠ 0)
    (second : illegalSecondByte ext op reg rm.isReg = decide (reg.toNat ≠ 0)) :
    (Tail.done (.illegalModrm op reg (rm16 rm))).Fits ext n :=
  illegalModrm_fits operand (second.trans (decide_eq_true fun zero => nonzero (BitVec.eq_of_toNat_eq zero)))

/-- Number 6 of group 2 is no shift (R119). -/
theorem shiftInstr_cases (ext : Bool) (reg : BitVec 3) (x : RmForm) (count : ShiftCount) :
    (reg = 6 ∧ shiftInstr reg x count = none) ∨
    ∃ i, shiftInstr reg x count = some i ∧ i.wellFormedWith ext = (x.wellFormed && count.legal ext) := by
  unfold shiftInstr
  split
  case h_7 e => exact .inl ⟨eq_ofNat_of_toNat e, rfl⟩
  all_goals exact .inr ⟨_, rfl, rfl⟩

theorem shiftTail_fits {count : ShiftCount} (operand : rm.wellFormed = true) (hx : x.wellFormed = true)
    (legal : count.legal ext = true) (second : illegalSecondByte ext op 6 rm.isReg = true) :
    (shiftTail op reg rm x count).Fits ext n := by
  unfold shiftTail
  obtain ⟨rfl, none⟩ | ⟨i, some, wf⟩ := shiftInstr_cases ext reg x count
  · rw [none]
    exact illegalModrm_fits operand second
  · rw [some]
    exact wf.trans (Bool.and_eq_true_iff.mpr ⟨hx, legal⟩)

theorem shiftImmTail_fits (operand : rm.wellFormed = true) (hx : x.wellFormed = true) (ext186 : ext = true)
    (second : illegalSecondByte ext op 6 rm.isReg = true) : (shiftImmTail op reg rm x).Fits ext 2 := by
  unfold shiftImmTail
  split
  · next six => exact six ▸ illegalModrm_fits operand second
  · next legal =>
    refine ⟨by decide, fun b => ?_⟩
    obtain ⟨six, -⟩ | ⟨i, some, wf⟩ := shiftInstr_cases ext reg x (.imm b)
    · exact absurd six legal
    · exact (congrArg _ (congrArg (Option.getD · _) some)).trans (wf.trans (Bool.and_eq_true_iff.mpr ⟨hx, ext186⟩))

theorem group3Instr_fits (operand : rm.wellFormed = true) (hx : x.wellFormed = true) (nonzero : reg ≠ 0)
    (second : illegalSecondByte ext op reg rm.isReg = decide (reg.toNat = 1)) :
    (Tail.done (group3Instr op reg rm x)).Fits ext n := by
  have bound := reg.isLt
  have pos : reg.toNat ≠ 0 := fun zero => nonzero (BitVec.eq_of_toNat_eq zero)
  unfold group3Instr
  split
  case h_7 =>
    have one : reg.toNat = 1 := by grind
    exact illegalModrm_fits operand (second.trans (decide_eq_true one))
  all_goals exact hx

theorem group5Instr_fits (operand : rm.wellFormed = true) : (Tail.done (group5Instr 0xFF reg rm)).Fits ext n := by
  have bound := reg.isLt
  have kind : rm.isReg = true ∨ ∃ m, rm = .mem m := by cases rm <;> simp [RM.isReg]
  unfold group5Instr
  split
  case h_4 | h_6 => exact operand
  case h_8 noMem3 noMem5 =>
    refine illegalModrm_fits operand ?_
    simp only [illegalSecondByte, BitVec.reduceToNat, Bool.or_eq_true, Bool.and_eq_true, decide_eq_true_eq]
    obtain isReg | ⟨m, mem⟩ := kind
    · grind
    · exact .inl (by have := (noMem3 m · mem); have := (noMem5 m · mem); grind)
  all_goals exact (wellFormed_rm16 _).trans operand

end

/-! ### The rows of the opcode map (R117) -/

/-- A row leads to a well-formed instruction within the six bytes of R102. -/
def Row.Fits (ext : Bool) : Row → Prop
  | .plain t => t.Fits ext 5
  | .modrm k => ∀ reg rm, rm.wellFormed = true → (k reg rm).Fits ext 2

/-- The high digit of a byte bounds it. -/
theorem toNat_bounds_of_high {op : Byte} {n : Nat} (h : (op.extractLsb' 4 4).toNat = n) :
    16 * n ≤ op.toNat ∧ op.toNat < 16 * n + 16 := by
  simp only [BitVec.extractLsb'_toNat, Nat.shiftRight_eq_div_pow] at h
  omega

section
variable {op : Byte}

/-- Where `EXT186` is false, what it would add is illegal (R460). -/
theorem fits_unless_illegal {row : Row} (h : (ext = false && illegalFirstByte false op) ≠ true → row.Fits ext) :
    (if ext = false && illegalFirstByte false op then .plain (.done (.illegalOp op)) else row).Fits ext := by
  split
  · next illegal =>
    obtain ⟨off, illegal⟩ := Bool.and_eq_true_iff.mp illegal
    cases of_decide_eq_true off
    exact illegal
  · next legal => exact h legal

theorem rowAlu_fits (o lo : BitVec 3) : (rowAlu o lo).Fits ext := by
  unfold rowAlu
  split
  case h_7 | h_8 =>
    simp only [Row.Fits, Tail.Fits]
    split <;> rfl
  all_goals simp [Row.Fits, Tail.Fits, AluForm.wellFormed, RmReg.wellFormed]

theorem row6_fits (h : (op.extractLsb' 4 4).toNat = 6) : (row6 ext op).Fits ext := by
  have range := toNat_bounds_of_high h
  refine fits_unless_illegal fun legal => ?_
  split
  case h_3 e =>
    cases eq_ofNat_of_toNat e
    have ext186 : ext = true := by simpa [illegalFirstByte] using legal
    intro reg rm operand
    cases rm with
    | reg r => exact illegalModrm_fits operand (by simp [illegalSecondByte, RM.isReg, ext186])
    | mem m => exact Bool.and_eq_true_iff.mpr ⟨ext186, operand⟩
  case h_12 =>
    have e : op.toNat = 0x63 ∨ op.toNat = 0x64 ∨ op.toNat = 0x65 ∨ op.toNat = 0x66 ∨ op.toNat = 0x67 := by grind
    obtain e | e | e | e | e := e <;> cases eq_ofNat_of_toNat e <;> cases ext <;> rfl
  all_goals simp_all [Row.Fits, Tail.Fits, Instr.wellFormedWith, illegalFirstByte]

theorem row8_fits (h : (op.extractLsb' 4 4).toNat = 8) : (row8 op).Fits ext := by
  have range := toNat_bounds_of_high h
  unfold row8
  split
  case h_1 | h_2 | h_3 | h_4 => simp [Row.Fits, Tail.Fits, AluForm.wellFormed, RmImm.wellFormed]
  case h_13 e | h_15 e =>
    cases eq_ofNat_of_toNat e
    intro reg rm operand
    dsimp only
    split
    · exact (wellFormed_rm16 rm).trans operand
    · next noSegment => exact illegalModrm_fits operand (decide_eq_true (SReg.ofBits_eq_none_iff.mp noSegment))
  case h_14 e =>
    cases eq_ofNat_of_toNat e
    intro reg rm operand
    cases rm with
    | reg r => exact illegalModrm_fits operand rfl
    | mem m => exact operand
  case h_16 =>
    have e : op.toNat = 0x8F := by grind
    cases eq_ofNat_of_toNat e
    intro reg rm operand
    dsimp only
    split
    · exact (wellFormed_rm16 rm).trans operand
    · next nonzero => exact illegalModrm_fits_of_ne_zero operand nonzero rfl
  all_goals simp [Row.Fits, Tail.Fits, TestForm.wellFormed, RmReg.wellFormed, Instr.wellFormedWith]

theorem row9_fits (h : (op.extractLsb' 4 4).toNat = 9) : (row9 op).Fits ext := by
  have range := toNat_bounds_of_high h
  unfold row9
  split
  case h_4 => exact ⟨by decide, fun _ _ => rfl⟩
  case h_10 =>
    have low : (op.extractLsb' 0 3).toNat ≠ 0 := by
      simp only [BitVec.extractLsb'_toNat, Nat.shiftRight_zero]
      grind
    exact bne_iff_ne.mpr (Reg16.ofBits_ne_ax low)
  all_goals rfl

theorem rowA_fits : (rowA op).Fits ext := by
  unfold rowA
  split <;> simp [Row.Fits, Tail.Fits, TestForm.wellFormed, Instr.wellFormedWith]

theorem rowC_fits : (rowC ext op).Fits ext := by
  refine fits_unless_illegal fun legal => ?_
  split
  case h_1 e =>
    cases eq_ofNat_of_toNat e
    have ext186 : ext = true := by simpa [illegalFirstByte] using legal
    intro reg rm operand
    exact shiftImmTail_fits operand ((wellFormed_rm8 rm).trans operand) ext186 (by simp [illegalSecondByte, ext186])
  case h_2 e =>
    cases eq_ofNat_of_toNat e
    have ext186 : ext = true := by simpa [illegalFirstByte] using legal
    intro reg rm operand
    exact shiftImmTail_fits operand ((wellFormed_rm16 rm).trans operand) ext186 (by simp [illegalSecondByte, ext186])
  case h_5 e | h_6 e =>
    cases eq_ofNat_of_toNat e
    intro reg rm operand
    cases rm with
    | reg r => exact illegalModrm_fits operand rfl
    | mem m => exact operand
  case h_7 e =>
    cases eq_ofNat_of_toNat e
    intro reg rm operand
    dsimp only
    split
    · exact ⟨by decide, fun _ => (wellFormed_rm8 rm).trans operand⟩
    · next nonzero => exact illegalModrm_fits_of_ne_zero operand nonzero rfl
  case h_8 e =>
    cases eq_ofNat_of_toNat e
    intro reg rm operand
    dsimp only
    split
    · exact ⟨by decide, fun _ => (wellFormed_rm16 rm).trans operand⟩
    · next nonzero => exact illegalModrm_fits_of_ne_zero operand nonzero rfl
  all_goals simp_all [Row.Fits, Tail.Fits, Instr.wellFormedWith, illegalFirstByte]

theorem rowD_fits : (rowD op).Fits ext := by
  unfold rowD
  split
  case h_1 e | h_3 e =>
    cases eq_ofNat_of_toNat e
    exact fun _ rm operand => shiftTail_fits operand ((wellFormed_rm8 rm).trans operand) rfl rfl
  case h_2 e | h_4 e =>
    cases eq_ofNat_of_toNat e
    exact fun _ rm operand => shiftTail_fits operand ((wellFormed_rm16 rm).trans operand) rfl rfl
  case h_7 e =>
    cases eq_ofNat_of_toNat e
    cases ext <;> rfl
  all_goals simp [Row.Fits, Tail.Fits, Instr.wellFormedWith]

theorem rowE_fits : (rowE op).Fits ext := by
  unfold rowE
  split <;> simp [Row.Fits, Tail.Fits, Instr.wellFormedWith]

theorem rowF_fits (h : (op.extractLsb' 4 4).toNat = 15) : (rowF op).Fits ext := by
  have range := toNat_bounds_of_high h
  unfold rowF
  split
  case h_2 e =>
    cases eq_ofNat_of_toNat e
    cases ext <;> rfl
  case h_7 e =>
    cases eq_ofNat_of_toNat e
    intro reg rm operand
    have operand8 := (wellFormed_rm8 rm).trans operand
    dsimp only
    split
    · exact ⟨by decide, fun _ => operand8⟩
    · next nonzero => exact group3Instr_fits operand operand8 nonzero rfl
  case h_8 e =>
    cases eq_ofNat_of_toNat e
    intro reg rm operand
    have operand16 := (wellFormed_rm16 rm).trans operand
    dsimp only
    split
    · exact ⟨by decide, fun _ => operand16⟩
    · next nonzero => exact group3Instr_fits operand operand16 nonzero rfl
  case h_15 e =>
    cases eq_ofNat_of_toNat e
    intro reg rm operand
    dsimp only
    split
    case h_3 => exact illegalModrm_fits operand (decide_eq_true (by grind))
    all_goals exact (wellFormed_rm8 rm).trans operand
  case h_16 =>
    have e : op.toNat = 0xFF := by grind
    cases eq_ofNat_of_toNat e
    exact fun _ _ => group5Instr_fits
  all_goals rfl

end

theorem opcodeRow_fits (op : Byte) : (opcodeRow ext op).Fits ext := by
  have bound := (op.extractLsb' 4 4).isLt
  unfold opcodeRow
  dsimp only
  split
  case h_1 | h_2 | h_3 | h_4 => exact rowAlu_fits _ _
  case h_5 | h_6 => split <;> rfl
  case h_7 high => exact row6_fits high
  case h_8 => exact ⟨by decide, wellFormed_jccInstr _⟩
  case h_9 high => exact row8_fits high
  case h_10 high => exact row9_fits high
  case h_11 => exact rowA_fits
  case h_12 => split <;> exact ⟨by decide, fun _ => rfl⟩
  case h_13 => exact rowC_fits
  case h_14 => exact rowD_fits
  case h_15 => exact rowE_fits
  case h_16 => exact rowF_fits (by grind)

/-- Settles O7: the row of the first byte fits, and it reads at most five bytes more: what follows the opcode, or the ModRM
byte with its displacement and at most two bytes after them. -/
theorem decodingIsTotal : Obligations.DecodingIsTotal := by
  intro ext bytes enough
  match bytes, enough with
  | op :: rest, enough =>
    have five : 5 ≤ rest.length := Nat.le_of_succ_le_succ enough
    have fits := opcodeRow_fits (ext := ext) op
    simp only [decodeWith]
    cases row : opcodeRow ext op with
    | plain t =>
      rw [row] at fits
      obtain ⟨i, m, hm, decoded, wf⟩ := decodeTail_total fits five
      exact ⟨i, m + 1, by omega, Nat.succ_le_succ hm, decoded, wf⟩
    | modrm k =>
      rw [row] at fits
      obtain ⟨reg, rm, n, hn, modrm, operand⟩ := decodeModrm_total (Nat.le_trans (by decide) five)
      have two : 2 ≤ (rest.drop n).length := by rw [List.length_drop]; omega
      obtain ⟨i, m, hm, decoded, wf⟩ := decodeTail_total (fits reg rm operand) two
      have read : rest.drop (n + m) = (op :: rest).drop (n + m + 1) := rfl
      refine ⟨i, n + m + 1, by omega, Nat.succ_le_succ (Nat.add_le_add hn hm), ?_, wf⟩
      rw [← read, ← List.drop_drop, ← decoded, modrm]

end Sys2Proof
end

section
/-! PROOFS of the statement about prefixes (spec/30_encoding.md R103, R104): the fetch of an item whose bytes lie at CS:IP, the
loop over prefixes, and the slot that executes. -/

namespace Sys2Proof.Machine

/-! ### The length of an instruction (R102) -/

/-- A well-formed instruction is one to six bytes long, since so many bytes decode, whatever follows them, to it. -/
theorem length_encode {i : Instr} (wf : i.wellFormed = true) :
    1 ≤ (encode i).length ∧ (encode i).length ≤ maxInstrBytes := by
  let pad : List Byte := List.replicate maxInstrBytes 0
  have enough : maxInstrBytes ≤ (encode i ++ pad).length := by simp [pad]
  obtain ⟨j, n, one, six, decoded, -⟩ := decodingIsTotal Config.ext186 _ enough
  have rest : pad = (encode i ++ pad).drop n := by
    have same := (decodeOfEncode Config.ext186 i pad wf).symm.trans decoded
    injection same with same
    exact congrArg Prod.snd same
  have := congrArg List.length rest
  simp only [List.length_drop, List.length_append, pad, List.length_replicate] at this
  omega

/-! ### Bytes at CS:IP (R70) -/

/-- The bytes fetched further on are those fetched from an IP further on. -/
theorem State.fetchByte_of_ip {s t : State} {n : Nat} (mem : t.mem = s.mem) (segs : t.segs = s.segs)
    (ip : t.ip = s.ip + BitVec.ofNat 16 n) (k : Nat) : t.fetchByte k = s.fetchByte (n + k) := by
  rw [State.fetchByte, State.fetchByte, State.readByte_congr mem, State.seg_congr segs, ip, BitVec.add_assoc,
    ← BitVec.ofNat_add]

theorem State.bytesAtIp_left {s : State} {l m : List Byte} (h : s.bytesAtIp (l ++ m)) : s.bytesAtIp l := fun k _ hk =>
  h k _ (List.getElem?_append_left (List.getElem?_eq_some_iff.mp hk).1 ▸ hk)

/-- What lies at CS:IP after the bytes of a list lies at CS:IP once IP has passed them. -/
theorem State.bytesAtIp_right {s t : State} {l m : List Byte} (h : s.bytesAtIp (l ++ m)) (mem : t.mem = s.mem)
    (segs : t.segs = s.segs) (ip : t.ip = s.ip + BitVec.ofNat 16 l.length) : t.bytesAtIp m := fun k b hk => by
  rw [State.fetchByte_of_ip mem segs ip]
  exact h _ b (by rwa [List.getElem?_append_right (Nat.le_add_right ..), Nat.add_sub_cancel_left])

theorem State.length_fetchBytes (s : State) (k n : Nat) : (s.fetchBytes k n).length = n := by
  induction n generalizing k with
  | zero => rfl
  | succ n ih => rw [State.fetchBytes, List.length_cons, ih]

theorem State.getElem?_fetchBytes (s : State) {k n j : Nat} (h : j < n) :
    (s.fetchBytes k n)[j]? = some (s.fetchByte (k + j)) := by
  induction n generalizing k j with
  | zero => cases h
  | succ n ih =>
    cases j with
    | zero => rfl
    | succ j => rw [State.fetchBytes, List.getElem?_cons_succ, ih (Nat.lt_of_succ_lt_succ h), Nat.succ_add_eq_add_succ]

/-- The window begins with the bytes that lie at CS:IP. -/
theorem State.fetchWindow_eq {s : State} {l : List Byte} (h : s.bytesAtIp l) (short : l.length ≤ maxInstrBytes) :
    s.fetchWindow = l ++ s.fetchWindow.drop l.length := by
  have begins : l = s.fetchWindow.take l.length := by
    apply List.ext_getElem?
    intro j
    by_cases inside : j < l.length
    · rw [List.getElem?_take_of_lt inside, State.fetchWindow, State.getElem?_fetchBytes s (Nat.lt_of_lt_of_le inside short),
        Nat.zero_add, h j _ (List.getElem?_eq_getElem inside), List.getElem?_eq_getElem inside]
    · have long : s.fetchWindow.length = maxInstrBytes := s.length_fetchBytes 0 maxInstrBytes
      rw [List.getElem?_eq_none (by omega), List.getElem?_eq_none (by rw [List.length_take]; omega)]
  conv => lhs; rw [← List.take_append_drop l.length s.fetchWindow, ← begins]

/-- The item at CS:IP is the instruction whose bytes lie there. -/
theorem State.fetch_of_bytesAtIp {s : State} {i : Instr} (wf : i.wellFormed = true) (h : s.bytesAtIp (encode i)) :
    s.fetch = some (i, s.setIp (s.ip + BitVec.ofNat 16 (encode i).length)) := by
  have short := (length_encode wf).2
  have window := State.fetchWindow_eq h short
  have decoded : decode s.fetchWindow = .ok (i, s.fetchWindow.drop (encode i).length) := by
    conv => lhs; rw [window]
    exact decodeOfEncode Config.ext186 i _ wf
  have read : maxInstrBytes - (s.fetchWindow.drop (encode i).length).length = (encode i).length := by
    rw [List.length_drop, State.fetchWindow, State.length_fetchBytes]
    omega
  rw [State.fetch, decoded]
  dsimp only
  rw [read]

/-! ### Prefixes (R103, R104) -/

/-- The repeat mode r with the prefixes of a list after it. -/
def repeatAfter (r : RepMode) (ps : List Instr) : RepMode :=
  match lastRepeat ps with
  | .norep => r
  | q => q

theorem repeatAfter_cons (r : RepMode) (p : Instr) (ps : List Instr) :
    repeatAfter (repeatAfter r [p]) ps = repeatAfter r (p :: ps) := by
  have last : lastRepeat (p :: ps) = repeatAfter (lastRepeat [p]) ps := rfl
  unfold repeatAfter at *
  rw [last]
  cases lastRepeat ps <;> rfl

theorem repeatAfter_norep (ps : List Instr) : repeatAfter .norep ps = lastRepeat ps := by
  unfold repeatAfter
  cases lastRepeat ps <;> rfl

theorem lastOverride_cons (p : Instr) (ps : List Instr) :
    lastOverride (p :: ps) = (lastOverride ps).or (lastOverride [p]) := rfl

/-- The decode state that the prefixes of a list leave (R104). -/
def State.withPrefixes (s : State) (ps : List Instr) : State :=
  { s with segOverride := (lastOverride ps).or s.segOverride, repMode := repeatAfter s.repMode ps }

theorem State.withPrefixes_cons (s : State) (p : Instr) (ps : List Instr) :
    (s.withPrefixes [p]).withPrefixes ps = s.withPrefixes (p :: ps) := by
  simp only [State.withPrefixes, repeatAfter_cons, lastOverride_cons p ps, Option.or_assoc]

theorem isPrefix_cases {p : Instr} (h : p.isPrefix = true) :
    p = .segEs ∨ p = .segCs ∨ p = .segSs ∨ p = .segDs ∨ p = .repne ∨ p = .rep := by
  unfold Instr.isPrefix at h
  split at h <;> simp_all

section
variable {p : Instr} (h : p.isPrefix = true)
include h

theorem wellFormed_of_isPrefix : p.wellFormed = true := by
  obtain rfl | rfl | rfl | rfl | rfl | rfl := isPrefix_cases h <;> rfl

theorem length_encode_prefix : (encode p).length = 1 := by
  obtain rfl | rfl | rfl | rfl | rfl | rfl := isPrefix_cases h <;> rfl

theorem exec_prefix (s : State) : exec p s = .next (s.withPrefixes [p]) := by
  obtain rfl | rfl | rfl | rfl | rfl | rfl := isPrefix_cases h <;> rfl

end

/-- The items of a slot: prefixes one after the other, and then the instruction after them. -/
theorem runItems_prefixes {ps : List Instr} (prefixes : ∀ p ∈ ps, p.isPrefix = true) {i : Instr}
    (wf : i.wellFormed = true) (last : i.isPrefix = false) {fuel : Nat} (enough : ps.length < fuel) {s : State}
    (bytes : s.bytesAtIp (ps.flatMap encode ++ encode i)) :
    runItems fuel s
      = exec i ((s.setIp (s.ip + BitVec.ofNat 16 (ps.length + (encode i).length))).withPrefixes ps) := by
  induction ps generalizing fuel s with
  | nil =>
    obtain ⟨fuel, rfl⟩ := Nat.exists_eq_add_one_of_ne_zero (Nat.ne_zero_of_lt enough)
    simp only [runItems, State.fetch_of_bytesAtIp wf bytes, last, List.length_nil, Nat.zero_add]
    rfl
  | cons p ps ih =>
    obtain ⟨fuel, rfl⟩ := Nat.exists_eq_add_one_of_ne_zero (Nat.ne_zero_of_lt enough)
    have hp : p.isPrefix = true := prefixes p List.mem_cons_self
    have one : (encode p).length = 1 := length_encode_prefix hp
    rw [List.flatMap_cons, List.append_assoc] at bytes
    let t := (s.setIp (s.ip + BitVec.ofNat 16 (encode p).length)).withPrefixes [p]
    have rest : t.bytesAtIp (ps.flatMap encode ++ encode i) := State.bytesAtIp_right bytes rfl rfl rfl
    have fetched := State.fetch_of_bytesAtIp (wellFormed_of_isPrefix hp) (State.bytesAtIp_left bytes)
    have ip : s.ip + BitVec.ofNat 16 (encode p).length + BitVec.ofNat 16 (ps.length + (encode i).length)
        = s.ip + BitVec.ofNat 16 ((p :: ps).length + (encode i).length) := by
      rw [BitVec.add_assoc, ← BitVec.ofNat_add, one, List.length_cons]
      congr 2
      omega
    calc runItems (fuel + 1) s
        = runItems fuel t := by simp only [runItems, fetched, hp, if_true, exec_prefix hp]; rfl
      _ = exec i ((t.setIp (t.ip + BitVec.ofNat 16 (ps.length + (encode i).length))).withPrefixes ps) :=
        ih (fun q hq => prefixes q (List.mem_cons_of_mem p hq)) (Nat.lt_of_succ_lt_succ enough) rest
      _ = exec i ((s.setIp (s.ip + BitVec.ofNat 16 ((p :: ps).length + (encode i).length))).withPrefixes (p :: ps)) := by
        rw [← State.withPrefixes_cons, ← ip]; rfl

/-! ### The slot (R500) -/

/-- A slot that executes runs its items from a clear decode state, with the latch sampled. -/
theorem State.Executes.step_eq {s : State} (h : s.Executes) :
    step s = retired (runItems Config.prefixBound (s.decoded none .norep 0)) := by
  have noTrap := h.noTrap
  have sampled : s.boundary.takeTrap = s.boundary.setTrapLatch s.boundary.flags.tf := by
    simp only [State.takeTrap, noTrap, Bool.false_eq_true, if_false]
  have start : s.boundary.takeTrap.beginDecode = s.decoded none .norep 0 := by
    rw [sampled, State.decoded, BitVec.add_zero]; rfl
  have noInterrupt : s.boundary.takeTrap.interruptDue = false := sampled ▸ h.noInterrupt
  have running : s.boundary.takeTrap.halt = false := sampled ▸ h.running
  simp only [step, State.slot, noTrap, noInterrupt, running, Bool.false_eq_true, if_false, State.runInstruction, start]
  cases runItems Config.prefixBound (s.decoded none .norep 0) <;> rfl

/-- Settles O11: the slot runs prefixes and instruction as its items, with IP after all their bytes. -/
theorem prefixesThenInstruction : Obligations.PrefixesThenInstruction := by
  intro s ps i executes prefixes enough wf last bytes
  have start : (s.decoded none .norep 0).ip = s.boundary.ip := BitVec.add_zero _
  have there : (s.decoded none .norep 0).bytesAtIp (ps.flatMap encode ++ encode i) :=
    State.bytesAtIp_right (l := []) bytes rfl rfl rfl
  let n := ps.length + (encode i).length
  have decoded : ((s.decoded none .norep 0).setIp ((s.decoded none .norep 0).ip + BitVec.ofNat 16 n)).withPrefixes ps
      = s.decoded (lastOverride ps) (lastRepeat ps) n := by
    rw [start, ← repeatAfter_norep, ← Option.or_none (o := lastOverride ps)]
    rfl
  rw [executes.step_eq, runItems_prefixes prefixes wf last enough there, decoded]

end Sys2Proof.Machine
end

section
/-! PROOFS of the statement that every instruction completes (spec/30_encoding.md R125, spec/48_int_misc.md R445): what the
shared operations do to the two counters, then one line for each instruction. -/

namespace Sys2Proof.Machine

/-! ### How many free values an operation draws (R18) -/

@[simp] theorem State.drew_draws (s : State) (n : Nat) : (s.drew n).draws = s.draws + n := rfl
@[simp] theorem State.logicFlags_draws (s : State) {w : Nat} (v : BitVec w) : (s.logicFlags v).draws = s.draws + 1 := rfl
@[simp] theorem State.logic_draws (s : State) (op : LogicOp) (x : Operands) : (s.logic op x).draws = s.draws + 1 := by
  cases x <;> simp [State.logic]
@[simp] theorem State.testBits_draws (s : State) (x : Operands) : (s.testBits x).draws = s.draws + 1 := by cases x <;> rfl

/-! ### The two counters -/

/-- The instruction counter is kept, and the counter of free values does not go back. -/
structure State.CountsFrom (s t : State) : Prop where
  instrCount : t.instrCount = s.instrCount
  draws : s.draws ≤ t.draws

namespace State.CountsFrom
variable {s t u : State}

theorem quiet (instrCount : t.instrCount = s.instrCount := by simp) (draws : t.draws = s.draws := by simp) :
    s.CountsFrom t := ⟨instrCount, draws.ge⟩

theorem drew (n : Nat) (instrCount : t.instrCount = s.instrCount := by simp)
    (draws : t.draws = s.draws + n := by simp) : s.CountsFrom t := ⟨instrCount, draws ▸ Nat.le_add_right ..⟩

theorem trans (st : s.CountsFrom t) (tu : t.CountsFrom u) : s.CountsFrom u :=
  ⟨tu.instrCount.trans st.instrCount, st.draws.trans tu.draws⟩

theorem shift (s : State) (op : ShiftOp) (x : Operand) (n : Nat) : s.CountsFrom (s.shift op x n) := by
  refine ⟨by simp, ?_⟩
  unfold State.shift
  split
  · exact Nat.le_refl _
  · cases x <;> simp

theorem handlerIn (s : State) (h : Handler) : s.CountsFrom (s.handlerIn h).2 := by
  cases h with
  | picCommand | picData | pitMode => exact quiet rfl rfl
  | _ => exact drew 1 rfl rfl

theorem inByte (s : State) (port : Word) : s.CountsFrom (s.inByte port).2 := by
  unfold State.inByte
  split
  · exact handlerIn s _
  · exact quiet rfl rfl

theorem inWord (s : State) (port : Word) : s.CountsFrom (s.inWord port).2 := (inByte s port).trans (inByte _ _)

theorem portIn (s : State) (w : Width) (port : Word) : s.CountsFrom (s.portIn w port) :=
  match w with
  | .byte => (inByte s port).trans (quiet rfl rfl)
  | .word => (inWord s port).trans (quiet rfl rfl)

theorem insb (s : State) : s.CountsFrom s.insb := (inByte s (s.reg .dx)).trans (quiet (draws := by simp [State.insb]))

theorem insw (s : State) : s.CountsFrom s.insw := (inWord s (s.reg .dx)).trans (quiet (draws := by simp [State.insw]))

/-- The repeat rule touches neither counter (R301). -/
theorem repeated {body : State → State} (h : s.CountsFrom (body s)) (compares : Bool) :
    s.CountsFrom (s.repeated compares body) := by
  unfold State.repeated
  split
  · exact h
  · split
    · exact quiet rfl rfl
    · dsimp only
      split <;> exact h.trans (quiet rfl rfl)

end State.CountsFrom

/-! ### The instructions with cases -/

theorem execEnter_countsFrom (size : Word) (level : Byte) (s : State) :
    ∃ t, execEnter size level s = .next t ∧ s.CountsFrom t := by
  refine ⟨_, rfl, ?_⟩
  cases (level &&& 0x1F).toNat with
  | zero | succ n => exact .quiet

theorem execAaa_countsFrom (s : State) : ∃ t, execAaa s = .next t ∧ s.CountsFrom t := by
  simp only [execAaa]
  split <;> exact ⟨_, rfl, .drew 4 rfl rfl⟩

theorem execAas_countsFrom (s : State) : ∃ t, execAas s = .next t ∧ s.CountsFrom t := by
  simp only [execAas]
  split <;> exact ⟨_, rfl, .drew 4 rfl rfl⟩

theorem execAam_countsFrom (base : Byte) (s : State) : ∃ t, execAam base s = .next t ∧ s.CountsFrom t := by
  simp only [execAam]
  split
  · exact ⟨_, rfl, .quiet⟩
  · exact ⟨_, rfl, .drew 3 rfl rfl⟩

theorem execInto_countsFrom (s : State) : ∃ t, execInto s = .next t ∧ s.CountsFrom t := by
  simp only [execInto]
  split <;> exact ⟨_, rfl, .quiet⟩

theorem execBound_countsFrom (r : Reg16) (m : MemOp) (s : State) :
    ∃ t, execBound r m s = .next t ∧ s.CountsFrom t := by
  unfold execBound
  split <;> exact ⟨_, rfl, .quiet⟩

/-- A divide: vectoring when the divisor is zero or the quotient too large, else the given results. -/
theorem State.divide_countsFrom {s done : State} {zero large : Prop} [Decidable zero] [Decidable large]
    (results : s.CountsFrom done) :
    ∃ t, (if zero then Host.Outcome.next s.divideError else if large then .next s.divideError else .next done)
        = (.next t : Host.Outcome State Fault Refusal) ∧ s.CountsFrom t := by
  split
  · exact ⟨_, rfl, .quiet⟩
  · split
    · exact ⟨_, rfl, .quiet⟩
    · exact ⟨_, rfl, results⟩

theorem exec_countsFrom (i : Instr) (s : State) : ∃ t, exec i s = .next t ∧ s.CountsFrom t := by
  cases i
  case or | and | xor | test => exact ⟨_, rfl, .drew 1⟩
  case inc f | dec f =>
    match f with
    | .r16 _ | .rm (.b _) | .rm (.w _) => exact ⟨_, rfl, .quiet⟩
  case neg x | not x | movRmReg x | movRegRm x | movRmImm x | movRegImm x | xchgRmReg x =>
    cases x <;> exact ⟨_, rfl, .quiet⟩
  case movAccMoffs w _ | movMoffsAcc w _ => cases w <;> exact ⟨_, rfl, .quiet⟩
  case movsb | movsw | cmpsb | cmpsw | stosb | stosw | lodsb | lodsw | scasb | scasw | outsb | outsw =>
    exact ⟨_, rfl, .repeated .quiet _⟩
  case insb => exact ⟨_, rfl, .repeated (.insb s) _⟩
  case insw => exact ⟨_, rfl, .repeated (.insw s) _⟩
  case rol | ror | rcl | rcr | shl | shr | sar => exact ⟨_, rfl, .shift ..⟩
  case mul x | imul x => cases x <;> exact ⟨_, rfl, .drew 4 rfl rfl⟩
  case imulImm16 | imulImm8 => exact ⟨_, rfl, .drew 4 rfl rfl⟩
  case div x | idiv x => cases x <;> exact State.divide_countsFrom (.drew 6 rfl rfl)
  case daa | das => exact ⟨_, rfl, .drew 1 rfl rfl⟩
  case aaa => exact execAaa_countsFrom s
  case aas => exact execAas_countsFrom s
  case aam base => exact execAam_countsFrom base s
  case aad => exact ⟨_, rfl, .drew 3 rfl rfl⟩
  case inImm w _ | inDx w => exact ⟨_, rfl, .portIn s w _⟩
  case into => exact execInto_countsFrom s
  case bound r m => exact execBound_countsFrom r m s
  case enter size level => exact execEnter_countsFrom size level s
  all_goals exact ⟨_, rfl, .quiet⟩

/-- Settles O16: every instruction completes, and keeps the two counters as stated. -/
theorem executionAlwaysCompletes : Obligations.ExecutionAlwaysCompletes := fun i s =>
  have ⟨t, executed, counts⟩ := exec_countsFrom i s
  ⟨t, executed, counts.instrCount, counts.draws⟩

end Sys2Proof.Machine
end

section
/-! PROOFS, first part of those about the registers and flags an instruction leaves alone: one rule for each way to write a
register, a segment register, flags or IP, and what the shared operations of the instruction families write. -/

namespace Sys2Proof.Machine

/-- The registers, segment registers and flags outside a footprint read as before, and so does IP unless it is named. -/
structure State.WritesWithin (s : State) (x : Footprint) (t : State) : Prop where
  regs : ∀ r, r ∉ x.regs → t.reg r = s.reg r
  segs : ∀ r, r ∉ x.segs → t.seg r = s.seg r
  flags : ∀ f, f ∉ x.flags → t.flags.get f = s.flags.get f
  ip : x.ip = false → t.ip = s.ip

/-! ### One flag -/

/-- The flag with this name takes the value v. -/
def Flags.set (g : Flags) (n : FlagName) (v : Bool) : Flags :=
  match n with
  | .cf => { g with cf := v } | .pf => { g with pf := v } | .af => { g with af := v }
  | .zf => { g with zf := v } | .sf => { g with sf := v } | .tf => { g with tf := v }
  | .ifl => { g with ifl := v } | .df => { g with df := v } | .ofl => { g with ofl := v }

theorem Flags.get_set (g : Flags) (n f : FlagName) (v : Bool) : (g.set n v).get f = if f = n then v else g.get f := by
  cases n <;> cases f <;> rfl

/-! ### What a computation of flags keeps (R151 to R164, R339, R408) -/

/-- The arithmetic flags are all but TF, IF and DF. -/
theorem Flags.get_of_notMem_arithmeticFlags {g h : Flags} (tf : h.tf = g.tf) (ifl : h.ifl = g.ifl) (df : h.df = g.df)
    {f : FlagName} (hf : f ∉ arithmeticFlags) : h.get f = g.get f := by
  cases f with
  | tf => exact tf
  | ifl => exact ifl
  | df => exact df
  | cf | pf | af | zf | sf | ofl => exact absurd (by decide) hf

/-- The flags that an operation of group 2 writes (R339). -/
def ShiftOp.writtenFlags (op : ShiftOp) : List FlagName := if op.writesSzp then arithmeticFlags else [.cf, .ofl]

theorem Flags.get_afterShift {g : Flags} {op : ShiftOp} {n w : Nat} {v : BitVec w} {freeOf freeAf : Bool} {f : FlagName}
    (hf : f ∉ op.writtenFlags) : (g.afterShift op n v freeOf freeAf).get f = g.get f := by
  unfold ShiftOp.writtenFlags at hf
  unfold Flags.afterShift
  split at hf
  · next szp =>
    simp only [szp, if_true]
    refine Flags.get_of_notMem_arithmeticFlags ?_ ?_ ?_ hf <;> rfl
  · next rotate =>
    simp only [rotate]
    cases f with
    | cf | ofl => exact absurd (by decide) hf
    | _ => rfl

theorem Flags.get_afterInc {g : Flags} {w : Nat} {a : BitVec w} (f : FlagName)
    (hf : f ∉ [.pf, .af, .zf, .sf, .ofl]) :
    (g.afterInc a).get f = g.get f := by
  cases f with
  | cf | tf | ifl | df => rfl
  | _ => exact absurd (by decide) hf

theorem Flags.get_afterDec {g : Flags} {w : Nat} {a : BitVec w} (f : FlagName)
    (hf : f ∉ [.pf, .af, .zf, .sf, .ofl]) :
    (g.afterDec a).get f = g.get f := by
  cases f with
  | cf | tf | ifl | df => rfl
  | _ => exact absurd (by decide) hf

theorem Flags.get_withLowByte {g : Flags} {v : Byte} (f : FlagName) (hf : f ∉ [.cf, .pf, .af, .zf, .sf]) :
    (g.withLowByte v).get f = g.get f := by
  cases f with
  | tf | ifl | df | ofl => rfl
  | _ => exact absurd (by decide) hf

/-- POPF and IRET write every flag (R410, R433). -/
theorem FlagName.mem_all (f : FlagName) : f ∈ [.cf, .pf, .af, .zf, .sf, .tf, .ifl, .df, .ofl] := by
  cases f <;> decide

/-- POPA names every register (R462). -/
theorem Reg16.mem_all (r : Reg16) : r ∈ [.ax, .cx, .dx, .bx, .sp, .bp, .si, .di] := by
  cases r <;> decide

namespace State.WritesWithin

variable {s t u : State} {x : Footprint}

/-! ### One rule for each way to write -/

/-- What changes none of the four writes within any footprint. -/
theorem quiet (regs : t.regs = s.regs := by simp) (segs : t.segs = s.segs := by simp)
    (flags : t.flags = s.flags := by simp) (ip : t.ip = s.ip := by simp) : s.WritesWithin x t :=
  ⟨fun r _ => State.reg_congr regs r, fun r _ => State.seg_congr segs r, fun _ _ => by rw [flags], fun _ => ip⟩

theorem refl : s.WritesWithin x s := quiet rfl rfl rfl rfl

theorem trans (st : s.WritesWithin x t) (tu : t.WritesWithin x u) : s.WritesWithin x u where
  regs r h := (tu.regs r h).trans (st.regs r h)
  segs r h := (tu.segs r h).trans (st.segs r h)
  flags f h := (tu.flags f h).trans (st.flags f h)
  ip h := (tu.ip h).trans (st.ip h)

/-- A footprint with more registers and with IP. -/
theorem addReg (h : s.WritesWithin x t) (r : Reg16) : s.WritesWithin { x with regs := r :: x.regs, ip := true } t :=
  ⟨fun q hq => h.regs q (List.not_mem_of_not_mem_cons hq), h.segs, h.flags, nofun⟩

section
variable (h : s.WritesWithin x t)
include h

theorem setReg {r : Reg16} (mem : r ∈ x.regs) (v : Word) : s.WritesWithin x (t.setReg r v) :=
  h.trans ⟨fun _ hq => t.reg_setReg_ne v fun e => hq (e ▸ mem), fun _ _ => rfl, fun _ _ => rfl, fun _ => rfl⟩

theorem setReg8 {r : Reg8} (mem : wordReg r ∈ x.regs) (v : Byte) : s.WritesWithin x (t.setReg8 r v) := h.setReg mem _

theorem setSeg {r : SReg} (mem : r ∈ x.segs) (v : Word) : s.WritesWithin x (t.setSeg r v) :=
  h.trans ⟨fun _ _ => rfl, fun _ hq => t.seg_setSeg_ne v fun e => hq (e ▸ mem), fun _ _ => rfl, fun _ => rfl⟩

theorem setIp (named : x.ip = true) (v : Word) : s.WritesWithin x (t.setIp v) :=
  h.trans ⟨fun _ _ => rfl, fun _ _ => rfl, fun _ _ => rfl, fun no => absurd (named.symm.trans no) nofun⟩

theorem setFlags {g : Flags} (kept : ∀ f, f ∉ x.flags → g.get f = t.flags.get f) : s.WritesWithin x (t.setFlags g) :=
  h.trans ⟨fun _ _ => rfl, fun _ _ => rfl, kept, fun _ => rfl⟩

theorem setFlag {n : FlagName} (mem : n ∈ x.flags) (v : Bool) : s.WritesWithin x (t.setFlags (t.flags.set n v)) :=
  h.setFlags fun f hf => (t.flags.get_set n f v).trans (if_neg fun e : f = n => hf (e ▸ mem))

/-- Flags computed from a result: TF, IF and DF stand. -/
theorem setArithmetic {g : Flags} (named : x.flags = arithmeticFlags := by rfl) (tf : g.tf = t.flags.tf := by rfl)
    (ifl : g.ifl = t.flags.ifl := by rfl) (df : g.df = t.flags.df := by rfl) : s.WritesWithin x (t.setFlags g) :=
  h.setFlags fun _ hf => Flags.get_of_notMem_arithmeticFlags tf ifl df (named ▸ hf)

theorem drew (n : Nat) : s.WritesWithin x (t.drew n) := h.trans (quiet rfl rfl rfl rfl)

theorem write8 {d : Loc Reg8} (mem : ∀ r ∈ d.regs8, r ∈ x.regs) (v : Byte) : s.WritesWithin x (t.write8 d v) :=
  h.trans ⟨fun _ hq => t.reg_write8 d v fun hd => hq (mem _ hd), fun r _ => State.seg_congr (by simp) r,
    fun _ _ => by simp, fun _ => by simp⟩

theorem write16 {d : Loc Reg16} (mem : ∀ r ∈ d.regs16, r ∈ x.regs) (v : Word) : s.WritesWithin x (t.write16 d v) :=
  h.trans ⟨fun _ hq => t.reg_write16 d v fun hd => hq (mem _ hd), fun r _ => State.seg_congr (by simp) r,
    fun _ _ => by simp, fun _ => by simp⟩

theorem writeTop (v : Word) : s.WritesWithin x (t.writeTop v) := h.trans quiet

theorem push16 (sp : .sp ∈ x.regs) (v : Word) : s.WritesWithin x (t.push16 v) := (h.setReg sp _).writeTop v

theorem popped (sp : .sp ∈ x.regs) : s.WritesWithin x t.popped := h.setReg sp _

theorem popInto (sp : .sp ∈ x.regs) {r : Reg16} (mem : r ∈ x.regs) : s.WritesWithin x (t.popInto r) :=
  (h.popped sp).setReg mem _

end

/-- A choice between two states, and of the footprint with it. -/
theorem choice {c : Prop} [Decidable c] {y : Footprint} (yes : s.WritesWithin x t) (no : s.WritesWithin y u) :
    s.WritesWithin (if c then x else y) (if c then t else u) := by
  split
  · exact yes
  · exact no

theorem choice_same {c : Prop} [Decidable c] (yes : s.WritesWithin x t) (no : s.WritesWithin x u) :
    s.WritesWithin x (if c then t else u) := by
  split
  · exact yes
  · exact no

/-! ### The shared operations of the instruction families -/

theorem addTo (s : State) (x : Operands) (c : Bool) :
    s.WritesWithin (x.footprint arithmeticFlags) (s.addTo x c) := by
  cases x with
  | b dst a b => exact .write8 (.setArithmetic .refl) (fun _ => id) _
  | w dst a b => exact .write16 (.setArithmetic .refl) (fun _ => id) _

theorem subFrom (s : State) (x : Operands) (c : Bool) :
    s.WritesWithin (x.footprint arithmeticFlags) (s.subFrom x c) := by
  cases x with
  | b dst a b => exact .write8 (.setArithmetic .refl) (fun _ => id) _
  | w dst a b => exact .write16 (.setArithmetic .refl) (fun _ => id) _

theorem compare (s : State) (x : Operands) : s.WritesWithin { flags := arithmeticFlags } (s.compare x) := by
  cases x with
  | b | w => exact .setArithmetic .refl

theorem logicFlags (s : State) {w : Nat} (v : BitVec w) (named : x.flags = arithmeticFlags) :
    s.WritesWithin x (s.logicFlags v) := .drew (.setArithmetic .refl named) 1

theorem logic (s : State) (op : LogicOp) (x : Operands) :
    s.WritesWithin (x.footprint arithmeticFlags) (s.logic op x) := by
  cases x with
  | b dst a b => exact .write8 (.logicFlags s _ rfl) (fun _ => id) _
  | w dst a b => exact .write16 (.logicFlags s _ rfl) (fun _ => id) _

theorem testBits (s : State) (x : Operands) : s.WritesWithin { flags := arithmeticFlags } (s.testBits x) := by
  cases x with
  | b | w => exact .logicFlags s _ rfl

theorem shift (s : State) (op : ShiftOp) (x : RmForm) (n : ShiftCount) {f : List FlagName}
    (named : f = op.writtenFlags := by rfl) :
    s.WritesWithin (s.shiftFootprint x n f) (s.shift op (x.operand s) (n.value s)) := by
  subst named
  refine .choice .refl ?_
  cases x with
  | b rm => exact .write8 (.drew (.setFlags .refl fun _ => Flags.get_afterShift) 2) (fun _ => id) _
  | w rm => exact .write16 (.drew (.setFlags .refl fun _ => Flags.get_afterShift) 2) (fun _ => id) _

theorem jumpIf (h : s.WritesWithin x t) (named : x.ip = true) (c : Bool) (d : Word) :
    s.WritesWithin x (t.jumpIf c d) := .choice_same (h.setIp named _) h

/-- The entry of an interrupt clears IF and TF and keeps the other flags (R510). -/
theorem intCall (s : State) (n : Byte) : s.WritesWithin s.vectorFootprint (s.intCall n) := by
  have pushed : s.WritesWithin s.vectorFootprint (((s.push16 s.flags.word).push16 (s.seg .cs)).push16 s.ip) :=
    .push16 (.push16 (.push16 .refl (.head _) _) (.head _) _) (.head _) _
  refine .setSeg (.setIp (.setFlags pushed fun f hf => ?_) rfl _) (.head _) _
  cases f with
  | ifl | tf => exact absurd (by simp [State.vectorFootprint]) hf
  | _ => simp [Flags.masked, Flags.get]

theorem illegal (s : State) : s.WritesWithin s.illegalFootprint (s.illegal Config.illegalOpcodePolicy) := by
  unfold State.illegalFootprint
  cases Config.illegalOpcodePolicy with
  | raise6 => exact intCall s 6
  | nop => exact refl

/-- Each turn of ENTER's copy loop lowers BP and pushes (R469). -/
theorem copyFrames (h : s.WritesWithin x t) (sp : .sp ∈ x.regs) (bp : .bp ∈ x.regs) (n : Nat) :
    s.WritesWithin x (t.copyFrames n) := by
  induction n generalizing t with
  | zero => exact h
  | succ n ih => exact ih (.push16 (h.setReg bp _) sp _)

/-- The repeat rule adds a count of CX and a change of IP (R301). -/
theorem repeated {body : State → State} (h : s.WritesWithin x (body s)) (compares : Bool) :
    s.WritesWithin (s.stringFootprint x) (s.repeated compares body) := by
  have counted := (h.addReg .cx).setReg (.head _) ((body s).reg .cx - 1)
  exact .choice h (.choice .refl (.choice_same (counted.setIp rfl _) counted))

theorem returnNear (sp : .sp ∈ x.regs) (ip : x.ip = true) : s.WritesWithin x s.returnNear :=
  .setIp (.popped .refl sp) ip _

theorem returnFar (sp : .sp ∈ x.regs) (ip : x.ip = true) (cs : .cs ∈ x.segs) : s.WritesWithin x s.returnFar :=
  .setSeg (.setIp (.popped (.popped .refl sp) sp) ip _) cs _

theorem divFlags (s : State) (named : x.flags = arithmeticFlags) : s.WritesWithin x s.divFlags :=
  .drew (.setArithmetic .refl named) 6

theorem portIn (s : State) (w : Width) (port : Word) (ax : .ax ∈ x.regs) : s.WritesWithin x (s.portIn w port) := by
  cases w with
  | byte => exact .setReg8 .quiet ax _
  | word => exact .setReg .quiet ax _

end State.WritesWithin

end Sys2Proof.Machine
end

section
/-! PROOFS of the statement that every instruction writes only what its footprint names of the registers, the segment registers,
the flags and IP: the instructions with cases, then one line for each instruction. -/

namespace Sys2Proof.Machine

/-! ### The instructions with cases -/

theorem State.outOfBounds_iff (s : State) (r : Reg16) (m : MemOp) :
    s.outOfBounds r m = true ↔ (s.reg r).toInt < (s.farLow m).toInt ∨ (s.farHigh m).toInt < (s.reg r).toInt := by
  simp only [State.outOfBounds, Bool.not_eq_true', Bool.and_eq_false_iff, decide_eq_false_iff_not, Int.not_le]

/-- A divide: vectoring when the divisor is zero or the quotient too large, else the results in given registers. -/
theorem State.divide_writesWithin {s done : State} {faults : Bool} {zero large : Prop} [Decidable zero] [Decidable large]
    (h : faults = true ↔ zero ∨ large) {x : Footprint} (results : s.WritesWithin x done) :
    ∃ t, (if zero then Host.Outcome.next s.divideError else if large then .next s.divideError else .next done)
        = (.next t : Host.Outcome State Fault Refusal) ∧
      s.WritesWithin (if faults then s.vectorFootprint else x) t := by
  refine ⟨if zero ∨ large then s.divideError else done, ?_, ?_⟩
  · by_cases zero <;> by_cases large <;> simp [*]
  · simp only [← h]
    exact .choice (.intCall s 0) results

theorem execBound_writesWithin (r : Reg16) (m : MemOp) (s : State) :
    ∃ t, execBound r m s = .next t ∧ s.WritesWithin (Instr.footprint (.bound r m) s) t := by
  refine ⟨_, (apply_ite Host.Outcome.next _ _ _).symm, ?_⟩
  simp only [← State.outOfBounds_iff]
  exact .choice (.intCall s 5) .refl

/-- AAA and AAS differ in the adjusted digits only. -/
theorem State.asciiAdjust_writesWithin (s : State) (adjust : Bool) (ah ah' al al' : Byte) :
    ∃ t, (if adjust then .next (s.asciiAdjusted ah al true) else .next (s.asciiAdjusted ah' al' false))
        = (.next t : Host.Outcome State Fault Refusal) ∧
      s.WritesWithin { regs := [.ax], flags := arithmeticFlags } t :=
  have adjusted (ah al : Byte) (c : Bool) :
      s.WritesWithin { regs := [.ax], flags := arithmeticFlags } (s.asciiAdjusted ah al c) :=
    .setReg (.drew (.setArithmetic .refl) 4) (.head _) _
  ⟨_, (apply_ite Host.Outcome.next _ _ _).symm, .choice_same (adjusted ..) (adjusted ..)⟩

theorem execEnter_writesWithin (size : Word) (level : Byte) (s : State) :
    ∃ t, execEnter size level s = .next t ∧ s.WritesWithin (Instr.footprint (.enter size level) s) t := by
  have saved : s.WritesWithin (Instr.footprint (.enter size level) s) (s.push16 (s.reg .bp)) :=
    .push16 .refl (.head _) _
  have copied := (saved.copyFrames (.head _) (.tail _ (.head _)) ((level &&& 0x1F).toNat - 1)).push16 (.head _)
  exact ⟨_, rfl, .setReg (.setReg (.choice_same saved (copied _)) (.tail _ (.head _)) _) (.head _) _⟩

/-- The results of a 16-bit divide are in AX and DX. -/
theorem State.setDiv16_writesWithin (s : State) (q r : Word) :
    s.WritesWithin { regs := [.ax, .dx], flags := arithmeticFlags } (s.setDiv16 q r) :=
  .setReg (.setReg (.divFlags s rfl) (.head _) _) (.tail _ (.head _)) _

theorem State.setDiv8_writesWithin (s : State) (q r : Byte) :
    s.WritesWithin { regs := [.ax], flags := arithmeticFlags } (s.setDiv8 q r) :=
  .setReg (.divFlags s rfl) (.head _) _

theorem execDiv_writesWithin (x : RmForm) (s : State) :
    ∃ t, execDiv x s = .next t ∧ s.WritesWithin (Instr.footprint (.div x) s) t :=
  match x with
  | .b _ => State.divide_writesWithin (Operand.divFaults_b ..) (s.setDiv8_writesWithin ..)
  | .w _ => State.divide_writesWithin (Operand.divFaults_w ..) (s.setDiv16_writesWithin ..)

theorem execIdiv_writesWithin (x : RmForm) (s : State) :
    ∃ t, execIdiv x s = .next t ∧ s.WritesWithin (Instr.footprint (.idiv x) s) t :=
  match x with
  | .b _ => State.divide_writesWithin (Operand.idivFaults_b ..) (s.setDiv8_writesWithin ..)
  | .w _ => State.divide_writesWithin (Operand.idivFaults_w ..) (s.setDiv16_writesWithin ..)

theorem execAam_writesWithin (base : Byte) (s : State) :
    ∃ t, execAam base s = .next t ∧ s.WritesWithin (Instr.footprint (.aam base) s) t :=
  ⟨_, (apply_ite Host.Outcome.next _ _ _).symm,
    .choice (.intCall s 0) (.setReg (.drew (.setArithmetic .refl) 3) (.head _) _)⟩

theorem execInto_writesWithin (s : State) :
    ∃ t, execInto s = .next t ∧ s.WritesWithin (Instr.footprint .into s) t :=
  ⟨_, (apply_ite Host.Outcome.next _ _ _).symm, .choice (.intCall s 4) .refl⟩

theorem execIret_writesWithin (s : State) :
    ∃ t, execIret s = .next t ∧ s.WritesWithin (Instr.footprint .iret s) t :=
  have popped : s.WritesWithin (Instr.footprint .iret s) s.popped.popped.popped :=
    .popped (.popped (.popped .refl (.head _)) (.head _)) (.head _)
  ⟨_, rfl, .setFlags (.setSeg (.setIp popped rfl _) (.head _) _) fun _ hf => absurd (FlagName.mem_all _) hf⟩

theorem execPusha_writesWithin (s : State) :
    ∃ t, execPusha s = .next t ∧ s.WritesWithin (Instr.footprint .pusha s) t := by
  have push {t : State} (h : s.WritesWithin (Instr.footprint .pusha s) t) (v : Word) :
      s.WritesWithin (Instr.footprint .pusha s) (t.push16 v) := h.push16 (.head _) v
  exact ⟨_, rfl, push (push (push (push (push (push (push (push .refl _) _) _) _) _) _) _) _⟩

theorem execPopa_writesWithin (s : State) :
    ∃ t, execPopa s = .next t ∧ s.WritesWithin (Instr.footprint .popa s) t := by
  have pop {t : State} (h : s.WritesWithin (Instr.footprint .popa s) t) (r : Reg16) :
      s.WritesWithin (Instr.footprint .popa s) (t.popInto r) := h.popInto (Reg16.mem_all .sp) (Reg16.mem_all r)
  have lower := pop (pop (pop .refl .di) .si) .bp
  exact ⟨_, rfl, pop (pop (pop (pop (lower.popped (Reg16.mem_all .sp)) .bx) .dx) .cx) .ax⟩

/-- Every instruction completes and writes within its footprint. -/
theorem exec_writesWithin (i : Instr) (s : State) : ∃ t, exec i s = .next t ∧ s.WritesWithin (i.footprint s) t :=
  match i with
  | .add f | .adc f => ⟨_, rfl, .addTo s (f.operands s) _⟩
  | .sub f | .sbb f => ⟨_, rfl, .subFrom s (f.operands s) _⟩
  | .or f | .and f | .xor f => ⟨_, rfl, .logic s _ (f.operands s)⟩
  | .cmp f => ⟨_, rfl, .compare s (f.operands s)⟩
  | .test f => ⟨_, rfl, .testBits s (f.operands s)⟩
  | .inc (.rm (.b _)) => ⟨_, rfl, .write8 (.setFlags .refl Flags.get_afterInc) (fun _ => id) _⟩
  | .inc (.rm (.w _)) | .inc (.r16 _) => ⟨_, rfl, .write16 (.setFlags .refl Flags.get_afterInc) (fun _ => id) _⟩
  | .dec (.rm (.b _)) => ⟨_, rfl, .write8 (.setFlags .refl Flags.get_afterDec) (fun _ => id) _⟩
  | .dec (.rm (.w _)) | .dec (.r16 _) => ⟨_, rfl, .write16 (.setFlags .refl Flags.get_afterDec) (fun _ => id) _⟩
  | .neg (.b rm) => ⟨_, rfl, .subFrom s (.b (s.loc rm) _ _) _⟩
  | .neg (.w rm) => ⟨_, rfl, .subFrom s (.w (s.loc rm) _ _) _⟩
  | .not (.b _) | .movRmReg (.b _ _) | .movRmImm (.b _ _) => ⟨_, rfl, .write8 .refl (fun _ => id) _⟩
  | .not (.w _) | .movRmReg (.w _ _) | .movRmImm (.w _ _) | .movRmSreg _ _ => ⟨_, rfl, .write16 .refl (fun _ => id) _⟩
  | .movRegRm (.b _ _) | .movRegImm (.b _ _) | .movAccMoffs .byte _ | .xlat | .lahf =>
    ⟨_, rfl, .setReg8 .refl (.head _) _⟩
  | .movRegRm (.w _ _) | .movRegImm (.w _ _) | .movAccMoffs .word _ | .lea _ _ | .cbw | .cwd =>
    ⟨_, rfl, .setReg .refl (.head _) _⟩
  | .movSregRm _ _ => ⟨_, rfl, .setSeg .refl (.head _) _⟩
  | .lds _ _ | .les _ _ => ⟨_, rfl, .setSeg (.setReg .refl (.head _) _) (.head _) _⟩
  | .xchgRmReg (.b _ _) => ⟨_, rfl, .setReg8 (.write8 .refl (fun _ => .tail _) _) (.head _) _⟩
  | .xchgRmReg (.w _ _) => ⟨_, rfl, .setReg (.write16 .refl (fun _ => .tail _) _) (.head _) _⟩
  | .xchgAx _ => ⟨_, rfl, .setReg (.setReg .refl (.head _) _) (.tail _ (.head _)) _⟩
  | .pushReg _ | .pushSreg _ | .pushRm _ | .pushf | .pushImm16 _ | .pushImm8 _ => ⟨_, rfl, .push16 .refl (.head _) _⟩
  | .pusha => execPusha_writesWithin s
  | .popReg _ => ⟨_, rfl, .popInto .refl (.head _) (.tail _ (.head _))⟩
  | .popSreg _ => ⟨_, rfl, .setSeg (.popped .refl (.head _)) (.head _) _⟩
  | .popRm _ => ⟨_, rfl, .write16 (.popped .refl (.head _)) (fun _ => .tail _) _⟩
  | .popa => execPopa_writesWithin s
  | .leave => ⟨_, rfl, .popInto (.setReg .refl (.head _) _) (.head _) (.tail _ (.head _))⟩
  | .enter size level => execEnter_writesWithin size level s
  | .jo _ | .jno _ | .jb _ | .jnb _ | .jz _ | .jnz _ | .jbe _ | .ja _ | .js _ | .jns _ | .jp _ | .jnp _ | .jl _ | .jge _
  | .jle _ | .jg _ | .jcxz _ => ⟨_, rfl, .jumpIf .refl rfl _ _⟩
  | .loop _ | .loopz _ | .loopnz _ => ⟨_, rfl, .jumpIf (.setReg .refl (.head _) _) rfl _ _⟩
  | .jmpShort _ | .jmpNear _ | .jmpRm _ => ⟨_, rfl, .setIp .refl rfl _⟩
  | .jmpFar _ _ | .jmpMem _ => ⟨_, rfl, .setIp (.setSeg .refl (.head _) _) rfl _⟩
  | .callNear _ | .callRm _ => ⟨_, rfl, .setIp (.push16 .refl (.head _) _) rfl _⟩
  | .callFar _ _ | .callMem _ =>
    ⟨_, rfl, .setIp (.setSeg (.push16 (.push16 .refl (.head _) _) (.head _) _) (.head _) _) rfl _⟩
  | .ret => ⟨_, rfl, .returnNear (.head _) rfl⟩
  | .retImm _ => ⟨_, rfl, .setReg (.returnNear (.head _) rfl) (.head _) _⟩
  | .retf => ⟨_, rfl, .returnFar (.head _) rfl (.head _)⟩
  | .retfImm _ => ⟨_, rfl, .setReg (.returnFar (.head _) rfl (.head _)) (.head _) _⟩
  | .iret => execIret_writesWithin s
  | .popf => ⟨_, rfl, .setFlags (.popped .refl (.head _)) fun _ hf => absurd (FlagName.mem_all _) hf⟩
  | .movsb | .movsw => ⟨_, rfl, .repeated (.setReg (.setReg .quiet (.head _) _) (.tail _ (.head _)) _) _⟩
  | .cmpsb | .cmpsw =>
    ⟨_, rfl, .repeated (.setReg (.setReg (.setArithmetic .refl) (.head _) _) (.tail _ (.head _)) _) _⟩
  | .stosb | .stosw | .insb | .insw | .outsb | .outsw => ⟨_, rfl, .repeated (.setReg .quiet (.head _) _) _⟩
  | .lodsb => ⟨_, rfl, .repeated (.setReg (.setReg8 .refl (.head _) _) (.tail _ (.head _)) _) _⟩
  | .lodsw => ⟨_, rfl, .repeated (.setReg (.setReg .refl (.head _) _) (.tail _ (.head _)) _) _⟩
  | .scasb | .scasw => ⟨_, rfl, .repeated (.setReg (.setArithmetic .refl) (.head _) _) _⟩
  | .rol x n | .ror x n | .rcl x n | .rcr x n | .shl x n | .shr x n | .sar x n => ⟨_, rfl, .shift s _ x n⟩
  | .mul (.b _) | .imul (.b _) | .imulImm16 _ _ _ | .imulImm8 _ _ _ =>
    ⟨_, rfl, .setReg (.drew (.setArithmetic .refl) 4) (.head _) _⟩
  | .mul (.w _) | .imul (.w _) =>
    ⟨_, rfl, .setReg (.setReg (.drew (.setArithmetic .refl) 4) (.tail _ (.head _)) _) (.head _) _⟩
  | .div x => execDiv_writesWithin x s
  | .idiv x => execIdiv_writesWithin x s
  | .daa | .das => ⟨_, rfl, .setReg8 (.drew (.setArithmetic .refl) 1) (.head _) _⟩
  | .aaa | .aas => State.asciiAdjust_writesWithin s ..
  | .aam base => execAam_writesWithin base s
  | .aad _ => ⟨_, rfl, .setReg (.drew (.setArithmetic .refl) 3) (.head _) _⟩
  | .clc | .stc | .cmc => ⟨_, rfl, .setFlag (n := .cf) .refl (.head _) _⟩
  | .cld | .std => ⟨_, rfl, .setFlag (n := .df) .refl (.head _) _⟩
  | .cli | .sti => ⟨_, rfl, .setFlag (n := .ifl) .refl (.head _) _⟩
  | .sahf => ⟨_, rfl, .setFlags .refl Flags.get_withLowByte⟩
  | .inImm w _ | .inDx w => ⟨_, rfl, .portIn s w _ (.head _)⟩
  | .int3 | .int _ => ⟨_, rfl, .intCall s _⟩
  | .into => execInto_writesWithin s
  | .illegalOp _ | .illegalModrm _ _ _ => ⟨_, rfl, .illegal s⟩
  | .bound r m => execBound_writesWithin r m s
  | .movMoffsAcc .byte _ | .movMoffsAcc .word _ | .outImm _ _ | .outDx _ | .nop | .hlt | .lock | .wait | .esc _ _ _
  | .segEs | .segCs | .segSs | .segDs | .repne | .rep => ⟨_, rfl, .quiet⟩

theorem writesWithin_of_exec {i : Instr} {s t : State} (h : exec i s = .next t) : s.WritesWithin (i.footprint s) t := by
  obtain ⟨u, executed, within⟩ := exec_writesWithin i s
  obtain rfl := Host.Outcome.next.inj (executed.symm.trans h)
  exact within

/-- Settles O57: an instruction writes within its footprint, and what is outside reads as before. -/
theorem frameOfRegistersAndFlags : Obligations.FrameOfRegistersAndFlags := fun _ _ _ h =>
  have within := writesWithin_of_exec h
  ⟨within.regs, within.segs, within.flags, within.ip⟩

end Sys2Proof.Machine
end

section
/-! PROOFS of the statements about ADD to TEST (spec/40_alu.md R151 to R167): each flag of a sum, a difference or a logical
result in numbers, at every width of more than one digit, then each instruction by its operands' width. -/

namespace Sys2Proof.Machine

/-! ### ZF, SF and PF (R151) -/

theorem evenOnes_eq_parityOf {w : Nat} (v : BitVec w) : evenOnes v = parityOf v := by
  have bits : List.range 8 = [0, 1, 2, 3, 4, 5, 6, 7] := rfl
  have even (b0 b1 b2 b3 b4 b5 b6 b7 : Bool) :
      ([b0, b1, b2, b3, b4, b5, b6, b7].countP id % 2 == 0) = !(b0 ^^ b1 ^^ b2 ^^ b3 ^^ b4 ^^ b5 ^^ b6 ^^ b7) := by
    revert b0 b1 b2 b3 b4 b5 b6 b7; decide
  simp only [parityOf, parity8, BitVec.getLsbD_setWidth]
  rw [evenOnes, bits]
  exact even ..

theorem resultFlags_eq {w : Nat} (f : Flags) (res : BitVec w) : resultFlags f res = f.withSzp res := by
  have zero : decide (res.toNat = 0) = (res == 0) := by
    rw [Bool.eq_iff_iff, decide_eq_true_iff, beq_iff_eq, ← BitVec.toNat_inj]; rfl
  rw [resultFlags, Flags.withSzp, zero, ← BitVec.msb_eq_toInt, evenOnes_eq_parityOf]

/-! ### Sums and differences (R152, R153) -/

section
variable {w : Nat} (a b : BitVec w) (c : Bool)

theorem ofInt_sub (m n : Int) : BitVec.ofInt w (m - n) = BitVec.ofInt w m - BitVec.ofInt w n := by
  rw [Int.sub_eq_add_neg, BitVec.ofInt_add, BitVec.ofInt_neg, ← BitVec.sub_eq_add_neg]

theorem addResult_eq : addResult a b c = a + b + BitVec.ofNat w c.toNat := by
  simp [addResult, BitVec.ofNat_add]

theorem subResult_eq : subResult a b c = a - b - BitVec.ofNat w c.toNat := by
  simp [subResult, ofInt_sub]

theorem addResult_eq_ofInt : addResult a b c = BitVec.ofInt w (a.toInt + b.toInt + c.toNat) := by
  simp [addResult_eq, BitVec.ofInt_add]

theorem subResult_eq_ofInt : subResult a b c = BitVec.ofInt w (a.toInt - b.toInt - c.toNat) := by
  simp [subResult_eq, ofInt_sub]

theorem addResult_one : addResult a 1 false = BitVec.ofNat w (a.toNat + 1) := by
  simp [addResult_eq, BitVec.ofNat_add]

theorem subResult_one : subResult a 1 false = BitVec.ofInt w (a.toInt - 1) := by
  simp [subResult_eq, ofInt_sub]

theorem not_eq_ofNat : ~~~ a = BitVec.ofNat w (2 ^ w - 1 - a.toNat) := by
  rw [← BitVec.toNat_not, BitVec.ofNat_toNat, BitVec.setWidth_eq]

/-- A sum undoes a difference. -/
theorem addResult_subResult : addResult (subResult a b c) b c = a := by
  rw [addResult_eq, subResult_eq]; ring

/-! ### AF: the low digits -/

theorem addResult_carry (digit : 4 < w) :
    (a ^^^ b ^^^ addResult a b c).getLsbD 4 = decide (16 ≤ a.toNat % 16 + b.toNat % 16 + c.toNat) := by
  have carried : addResult a b c = a + b + BitVec.setWidth w (BitVec.ofBool c) := by
    rw [addResult_eq, ← BitVec.toNat_ofBool, BitVec.ofNat_toNat]
  have cancel (x y z : Bool) : ((x ^^ y) ^^ (x ^^ (y ^^ z))) = z := by revert x y z; decide
  rw [BitVec.getLsbD_xor, BitVec.getLsbD_xor, carried, BitVec.getLsbD_add_add_bool digit, cancel]
  rfl

theorem subResult_borrow (digit : 4 < w) :
    (a ^^^ b ^^^ subResult a b c).getLsbD 4 = decide (a.toNat % 16 < b.toNat % 16 + c.toNat) := by
  have low : (subResult a b c).toNat % 16 = (((a.toNat : Int) - b.toNat - c.toNat) % 16).toNat := by
    have dvd : (16 : Int) ∣ ((2 ^ w : Nat) : Int) := by
      exact_mod_cast pow_dvd_pow 2 (show 4 ≤ w by omega)
    rw [subResult, BitVec.toNat_ofInt, ← Int.emod_emod_of_dvd _ dvd]
    omega
  have sum := addResult_carry (subResult a b c) b c digit
  rw [addResult_subResult, low] at sum
  have sym : a ^^^ b ^^^ subResult a b c = subResult a b c ^^^ b ^^^ a := by
    rw [BitVec.xor_comm, BitVec.xor_comm a, BitVec.xor_assoc]
  have one := c.toNat_le
  rw [sym, sum, decide_eq_decide]
  omega

/-! ### OF: the signed result -/

theorem fitsSigned_iff {n : Int} : fitsSigned w n = true ↔ -2 ^ (w - 1) ≤ n ∧ n < 2 ^ (w - 1) := by
  simp [fitsSigned]

theorem msb_iff_toInt_neg : a.msb = true ↔ a.toInt < 0 := by
  rw [BitVec.msb_eq_toInt, decide_eq_true_iff]

theorem msb_xor_iff : (a ^^^ b).msb = true ↔ ¬ (a.msb = true ↔ b.msb = true) := by
  rw [BitVec.msb_xor, bne_iff_ne, ne_eq, Bool.eq_iff_iff]

/-- The sign bit of a number reduced modulo 2^w: a number that fits is negative, one that does not has the other sign. -/
theorem msb_ofInt_iff {n : Int} (pos : 0 < w) (low : -2 ^ w ≤ n) (high : n < 2 ^ w) :
    (BitVec.ofInt w n).msb = true ↔ -2 ^ (w - 1) ≤ n ∧ n < 0 ∨ 2 ^ (w - 1) ≤ n := by
  obtain ⟨m, rfl⟩ := Nat.exists_eq_add_one_of_ne_zero (Nat.ne_of_gt pos)
  have double : (2 : Int) ^ (m + 1) = 2 * 2 ^ m := by ring
  have modulus : ((2 ^ (m + 1) : Nat) : Int) = 2 * 2 ^ m := by push_cast; exact double
  rw [msb_iff_toInt_neg, BitVec.toInt_ofInt, Nat.add_sub_cancel, Int.bmod_def, modulus]
  rw [double] at low high
  generalize (2 : Int) ^ m = half at *
  by_cases neg : n < 0
  · have reduced : n % (2 * half) = n + 2 * half := by rw [← Int.add_emod_right, Int.emod_eq_of_lt] <;> omega
    rw [reduced]
    omega
  · rw [Int.emod_eq_of_lt (by omega) high]
    omega

/-- A signed operand is within half of the range of unsigned numbers on each side. -/
theorem toInt_bounds (pos : 0 < w) :
    (2 : Int) ^ w = 2 * 2 ^ (w - 1) ∧ -2 ^ (w - 1) ≤ a.toInt ∧ a.toInt < 2 ^ (w - 1) := by
  refine ⟨?_, a.le_toInt, a.toInt_lt⟩
  rw [← pow_succ', Nat.sub_add_cancel pos]

theorem addResult_overflow (pos : 0 < w) :
    ((addResult a b c ^^^ a) &&& (addResult a b c ^^^ b)).msb = !fitsSigned w (a.toInt + b.toInt + c.toNat) := by
  obtain ⟨double, lowA, highA⟩ := toInt_bounds a pos
  obtain ⟨-, lowB, highB⟩ := toInt_bounds b pos
  have one := c.toNat_le
  have sign := msb_ofInt_iff (n := a.toInt + b.toInt + c.toNat) pos (by omega) (by omega)
  rw [Bool.eq_iff_iff, BitVec.msb_and, Bool.and_eq_true, msb_xor_iff, msb_xor_iff, addResult_eq_ofInt, sign,
    msb_iff_toInt_neg, msb_iff_toInt_neg, Bool.not_eq_true', ← Bool.not_eq_true, fitsSigned_iff]
  omega

theorem subResult_overflow (pos : 0 < w) :
    ((a ^^^ b) &&& (a ^^^ subResult a b c)).msb = !fitsSigned w (a.toInt - b.toInt - c.toNat) := by
  obtain ⟨double, lowA, highA⟩ := toInt_bounds a pos
  obtain ⟨-, lowB, highB⟩ := toInt_bounds b pos
  have one := c.toNat_le
  have sign := msb_ofInt_iff (n := a.toInt - b.toInt - c.toNat) pos (by omega) (by omega)
  rw [Bool.eq_iff_iff, BitVec.msb_and, Bool.and_eq_true, msb_xor_iff, msb_xor_iff, subResult_eq_ofInt, sign,
    msb_iff_toInt_neg, msb_iff_toInt_neg, Bool.not_eq_true', ← Bool.not_eq_true, fitsSigned_iff]
  omega

/-! ### All six flags -/

theorem Flags.afterAdd_eq_sumFlags (f : Flags) (wide : 4 < w) : f.afterAdd a b c = sumFlags f a b c.toNat := by
  rw [Flags.afterAdd, sumFlags, resultFlags_eq, ← addResult_overflow a b c (Nat.zero_lt_of_lt wide),
    ← addResult_carry a b c wide]
  rfl

theorem Flags.afterSub_eq_differenceFlags (f : Flags) (wide : 4 < w) :
    f.afterSub a b c = differenceFlags f a b c.toNat := by
  rw [Flags.afterSub, differenceFlags, resultFlags_eq, ← subResult_overflow a b c (Nat.zero_lt_of_lt wide),
    ← subResult_borrow a b c wide, ← subResult_eq_ofInt]

/-- The flags of a logical result, with AF drawn (R154). -/
theorem State.logicFlags_eq (s : State) (res : BitVec w) :
    s.logicFlags res = s.flagged (s.logicalFlags res) 1 := by
  rw [State.logicalFlags, resultFlags_eq]; rfl

end

/-! ### The instructions -/

/-- Settles O22: the flags of a sum in numbers, with the carry 0 or CF. -/
theorem addAdcResults : Obligations.AddAdcResults := by
  intro f s
  simp only [exec, execAdd, execAdc]
  cases f.operands s with
  | b d a b | w d a b =>
    simp only [State.addTo, Flags.afterAdd_eq_sumFlags, Nat.reduceLT]
    exact ⟨rfl, rfl⟩

/-- Settles O23: the flags of a difference in numbers, with the borrow 0 or CF; NEG is the difference from 0. -/
theorem subSbbCmpNegResults : Obligations.SubSbbCmpNegResults := by
  refine ⟨fun f s => ?_, fun x s => ?_⟩
  · simp only [exec, execSub, execSbb, execCmp]
    cases f.operands s with
    | b d a b | w d a b =>
      simp [State.subFrom, State.compare, Flags.afterSub_eq_differenceFlags, subResult_eq_ofInt]
  · simp only [exec, execNeg]
    cases x.operand s with
    | b d a | w d a => simp [State.subFrom, Flags.afterSub_eq_differenceFlags, subResult_eq_ofInt]

/-- Settles O24: ZF, SF and PF of the result in numbers; the draw for AF is the same. -/
theorem logicResults : Obligations.LogicResults := by
  refine ⟨fun f s => ?_, fun f s => ?_⟩
  · simp only [exec, execAnd, execOr, execXor]
    cases f.operands s with
    | b d a b | w d a b => simp only [State.logic, State.logicFlags_eq]; exact ⟨rfl, rfl, rfl⟩
  · simp only [exec, execTest]
    cases f.operands s with
    | b d a b | w d a b => simp only [State.testBits, State.logicFlags_eq]

/-- Settles O25: the sum and the difference with 1, their CF replaced by the old one; NOT is the difference from all ones. -/
theorem incDecNotResults : Obligations.IncDecNotResults := by
  refine ⟨fun f s => ?_, fun _ _ _ => ⟨rfl, rfl⟩, fun x s => ?_⟩
  · simp only [exec, execInc, execDec]
    cases f.operand s with
    | b d a | w d a =>
      simp only [Flags.afterInc, Flags.afterDec, Flags.afterAdd_eq_sumFlags, Flags.afterSub_eq_differenceFlags,
        Nat.reduceLT, addResult_one, subResult_one]
      exact ⟨rfl, rfl⟩
  · simp only [exec, execNot]
    cases x.operand s with
    | b d a | w d a => simp only [not_eq_ofNat]; rfl

end Sys2Proof.Machine
end

section
/-! PROOFS of the statement about the rows of the two-operand operations and the illegal encodings (spec/40_alu.md R150,
spec/30_encoding.md R125), from the rows of the opcode map. -/

namespace Sys2Proof

/-- Settles O9: each row is known from the opcode map, and with it what follows the opcode. -/
theorem opcodeRows : Obligations.OpcodeRows := by
  refine ⟨fun ext o bytes rest reg rm h => ?_, fun ext o lo hi rest => ?_, fun ext bytes rest o rm lo hi => ⟨?_, ?_⟩,
    fun _ _ _ _ _ _ _ => ⟨rfl, rfl, rfl, rfl, rfl, rfl, rfl, rfl, rfl⟩,
    fun _ _ rest h => Decodes.ofPlain (bytes := []) (fun _ => rfl) (opcodeRow_illegalOp h) rest,
    fun _ _ _ _ _ _ h second => (modrmRow_illegalModrm second).decode h⟩
  · have row (lo : BitVec 3) := opcodeRow_alu ext o lo
    exact ⟨ModrmRow.decode ⟨_, row 0, rfl⟩ h, ModrmRow.decode ⟨_, row 1, rfl⟩ h, ModrmRow.decode ⟨_, row 2, rfl⟩ h,
      ModrmRow.decode ⟨_, row 3, rfl⟩ h⟩
  · have row (low : BitVec 3) := opcodeRow_alu ext o low
    exact ⟨Decodes.ofPlain (bytes := [lo]) (fun _ => rfl) (row 4) rest,
      Decodes.ofPlain (bytes := [lo, hi]) (fun _ => rfl) (row 5) rest⟩
  · have byte80 : ModrmRow ext 0x80 o rm (.imm8 fun i => aluInstr o (.rmImm (.b (rm8 rm) i))) := ⟨_, rfl, rfl⟩
    have byte82 : ModrmRow ext 0x82 o rm (.imm8 fun i => aluInstr o (.rmImm (.b (rm8 rm) i))) := ⟨_, rfl, rfl⟩
    have byte83 : ModrmRow ext 0x83 o rm (.imm8 fun i => aluInstr o (.rmImm8s (rm16 rm) i)) := ⟨_, rfl, rfl⟩
    exact fun h => ⟨byte80.decode h, byte82.decode h, byte83.decode h⟩
  · have byte81 : ModrmRow ext 0x81 o rm (.imm16 fun i => aluInstr o (.rmImm (.w (rm16 rm) i))) := ⟨_, rfl, rfl⟩
    exact byte81.decode

end Sys2Proof
end

section
/-! PROOFS of the statements about data movement (spec/41_data_movement.md R200 to R222, spec/49_ext186.md R464, R465):
each instruction's meaning with the stack, the register file and the words it extends in the terms of the statement. -/

namespace Sys2Proof.Machine

/-! ### A register written twice, or with its own value (R20) -/

@[simp] theorem Regs.set_set (g : Regs) (r : Reg16) (u v : Word) : (g.set r u).set r v = g.set r v :=
  Regs.ext_get fun q => by
    simp only [Regs.get_set]
    split
    · rfl
    · rfl

@[simp] theorem Regs.set_get (g : Regs) (r : Reg16) : g.set r (g.get r) = g :=
  Regs.ext_get fun q => by
    rw [Regs.get_set]
    split
    · next same => rw [same]
    · rfl

@[simp] theorem State.setReg_setReg (s : State) (r : Reg16) (u v : Word) :
    (s.setReg r u).setReg r v = s.setReg r v :=
  congrArg s.setRegs (s.regs.set_set r u v)

@[simp] theorem State.setReg_reg (s : State) (r : Reg16) : s.setReg r (s.reg r) = s :=
  congrArg s.setRegs (s.regs.set_get r)

/-! ### MOV (R200 to R207) -/

/-- Settles O26: each form is by its definition a write of the source to the destination; a moffs form's segment is the
override or DS. -/
theorem movResults : Obligations.MovResults := fun _ _ _ _ _ _ _ _ =>
  ⟨rfl, rfl, rfl, rfl, rfl, rfl, rfl, rfl, ⟨rfl, rfl, rfl, rfl⟩, rfl, rfl⟩

/-! ### PUSH and POP (R208 to R213, R464, R465) -/

/-- PUSH r16 reads its register after SP is lowered, so PUSH SP stores the new SP (R208). -/
theorem execPushReg_eq (r : Reg16) (s : State) :
    execPushReg r s = .next (s.push16 (if r = .sp then s.reg .sp - 2 else s.reg r)) := by
  rw [execPushReg, State.reg_grown, State.push16]

/-- POP SP leaves the popped word: the raised SP is overwritten (R211). -/
theorem State.popped_setReg_sp (s : State) (v : Word) : s.popped.setReg .sp v = s.setReg .sp v :=
  s.setReg_setReg .sp _ v

/-- Settles O27: a push is a word write at the lowered SP, of a register read there or an operand read before. -/
theorem pushPopResults : Obligations.PushPopResults := by
  intro s r sr rm i8 i16
  simp only [← State.push16_eq]
  exact ⟨execPushReg_eq r s, rfl, rfl, rfl, rfl, rfl, rfl, congrArg Host.Outcome.next (s.popped_setReg_sp _), rfl, rfl⟩

/-! ### XCHG to CWD (R214 to R222) -/

/-- XCHG AX, AX is NOP: AX is written with its own value. -/
theorem execXchgAx_ax (s : State) : execXchgAx .ax s = .next s := by
  simp [execXchgAx]

/-- The offset XLAT reads at, as a number modulo 2^16 (R220). -/
theorem add_zext16 (v : Word) (b : Byte) : v + zext16 b = BitVec.ofNat 16 (v.toNat + b.toNat) := by
  rw [BitVec.ofNat_add, BitVec.ofNat_toNat, BitVec.ofNat_toNat, BitVec.setWidth_eq, zext16]

/-- CWD fills DX with the sign of AX, which is AX below 0 as a signed number (R222). -/
theorem execCwd_eq (s : State) :
    execCwd s = .next (s.setReg .dx (if (s.reg .ax).toInt < 0 then 0xFFFF else 0)) := by
  simp only [execCwd, msb_iff_toInt_neg]

/-- Settles O28: XCHG AX, AX, XLAT and CWD by their lemmas; the others are the statement's terms by definition. -/
theorem exchangeAndAddressResults : Obligations.ExchangeAndAddressResults := by
  intro s rm8 rm16 r8 r16 m
  have xlat : exec .xlat s = .next (s.setReg8 .al (s.readByte (phys s.dataSeg
      (BitVec.ofNat 16 ((s.reg .bx).toNat + (s.reg8 .al).toNat))))) := by
    rw [← add_zext16]; rfl
  exact ⟨rfl, rfl, rfl, rfl, execXchgAx_ax s, rfl, rfl, rfl, xlat, rfl, execCwd_eq s⟩

end Sys2Proof.Machine
end

section
/-! PROOFS of the statements about control transfer (spec/42_control_transfer.md R250 to R268): jump targets in numbers, the
order of two numbers in the flags of their difference, and the stack under a call and its return. -/

namespace Sys2Proof.Machine

/-! ### Jump targets (R268) -/

theorem State.ip_add_eq_target (s : State) (d : Word) : s.ip + d = s.target d.toNat := by
  simp [State.target, BitVec.ofInt_add]

theorem State.ip_add_sext16 (s : State) (d : Byte) : s.ip + sext16 d = s.target d.toInt := by
  simp [State.target, BitVec.ofInt_add, sext16, BitVec.signExtend]

/-- A jump on a condition, the condition said in other words and the target in numbers. -/
theorem State.jumpIf_sext16 (s : State) {c : Bool} {p : Prop} [Decidable p] (cond : c = true ↔ p) (d : Byte) :
    s.jumpIf c (sext16 d) = if p then s.setIp (s.target d.toInt) else s := by
  simp only [State.jumpIf, State.ip_add_sext16, cond]

/-! ### Conditional jumps (R250) -/

/-- Settles O29: the model's conditions are those of the table, three of the negated ones by the laws of `Bool`. -/
theorem conditionalJumps : Obligations.ConditionalJumps := by
  intro s d
  have goes {c p : Bool} (same : c = p) : (.next (s.jumpIf c (sext16 d)) : Host.Outcome State Fault Refusal)
      = .next (if p then s.setIp (s.target d.toInt) else s) := by rw [s.jumpIf_sext16 (Bool.eq_iff_iff.mp same)]
  have above : (!s.flags.cf && !s.flags.zf) = !(s.flags.cf || s.flags.zf) := (Bool.not_or ..).symm
  have notLess : (s.flags.sf == s.flags.ofl) = !(s.flags.sf ^^ s.flags.ofl) := (Bool.not_not _).symm
  have greater : (!s.flags.zf && s.flags.sf == s.flags.ofl) = !(s.flags.zf || (s.flags.sf ^^ s.flags.ofl)) := by
    rw [notLess, Bool.not_or]
  exact ⟨⟨rfl, goes rfl⟩, ⟨rfl, goes rfl⟩, ⟨rfl, goes rfl⟩, ⟨rfl, goes rfl⟩, ⟨rfl, goes rfl⟩, ⟨rfl, goes rfl⟩,
    ⟨rfl, goes rfl⟩, ⟨rfl, goes above⟩, ⟨rfl, goes rfl⟩, ⟨rfl, goes rfl⟩, ⟨rfl, goes rfl⟩, ⟨rfl, goes rfl⟩,
    ⟨rfl, goes rfl⟩, ⟨rfl, goes notLess⟩, ⟨rfl, goes rfl⟩, ⟨rfl, goes greater⟩⟩

/-! ### The order of two numbers in the flags of their difference (R153, R162) -/

/-- CF, ZF, and SF with OF tell how a and b compare: as unsigned numbers, for equality, as signed numbers. -/
structure Flags.Orders {w : Nat} (f : Flags) (a b : BitVec w) : Prop where
  below : f.cf = true ↔ a.toNat < b.toNat
  equal : f.zf = true ↔ a = b
  less : (f.sf ^^ f.ofl) = true ↔ a.toInt < b.toInt

section
variable {w : Nat} (a b : BitVec w)

/-- The sign of the reduced difference is the wrong one exactly when the difference does not fit. -/
theorem sign_xor_overflow_iff (pos : 0 < w) :
    ((BitVec.ofInt w (a.toInt - b.toInt)).msb ^^ !fitsSigned w (a.toInt - b.toInt)) = true ↔ a.toInt < b.toInt := by
  obtain ⟨double, lowA, highA⟩ := toInt_bounds a pos
  obtain ⟨-, lowB, highB⟩ := toInt_bounds b pos
  have sign := msb_ofInt_iff (n := a.toInt - b.toInt) pos (by omega) (by omega)
  rw [Bool.xor_iff_ne, ne_eq, Bool.eq_iff_iff, sign, Bool.not_eq_true', ← Bool.not_eq_true, fitsSigned_iff]
  omega

theorem Flags.orders_differenceFlags (f : Flags) (pos : 0 < w) : (differenceFlags f a b 0).Orders a b where
  below := decide_eq_true_iff
  equal := by
    have zero : BitVec.ofInt w (a.toInt - b.toInt) = 0#w ↔ a = b := by
      simpa [ofInt_sub] using sub_eq_zero (a := a) (b := b)
    simp only [differenceFlags, resultFlags, decide_eq_true_iff, Nat.cast_zero, Int.sub_zero]
    rw [← zero, ← BitVec.toNat_inj, BitVec.toNat_zero]
  less := by
    rw [← sign_xor_overflow_iff a b pos, BitVec.msb_eq_toInt]
    simp only [differenceFlags, resultFlags, Nat.cast_zero, Int.sub_zero]

end

/-- A conditional jump as two implications, its condition said in other words. -/
theorem exec_of_jump {s t u : State} {i : Instr} {c : Bool} {p : Prop}
    (jump : exec i s = .next (if c then t else u)) (cond : c = true ↔ p) :
    (p → exec i s = .next t) ∧ (¬ p → exec i s = .next u) := by
  rw [jump, ← cond]
  exact ⟨fun h => by rw [if_pos h], fun h => by rw [if_neg h]⟩

/-- The conditions of the ten ordering jumps (R250). -/
theorem Flags.Orders.conditions {w : Nat} {f : Flags} {a b : BitVec w} (h : f.Orders a b) :
    ((!f.cf) = true ↔ b.toNat ≤ a.toNat) ∧ ((f.cf || f.zf) = true ↔ a.toNat ≤ b.toNat) ∧
    ((!(f.cf || f.zf)) = true ↔ b.toNat < a.toNat) ∧ ((!f.zf) = true ↔ a ≠ b) ∧
    ((!(f.sf ^^ f.ofl)) = true ↔ b.toInt ≤ a.toInt) ∧ ((f.zf || (f.sf ^^ f.ofl)) = true ↔ a.toInt ≤ b.toInt) ∧
    ((!(f.zf || (f.sf ^^ f.ofl))) = true ↔ b.toInt < a.toInt) := by
  obtain ⟨below, equal, less⟩ := h
  simp only [Bool.not_eq_true', ← Bool.not_eq_true, Bool.or_eq_true, below, equal, less, ne_eq,
    ← BitVec.toNat_inj, true_and]
  have signed : a.toNat = b.toNat ↔ a.toInt = b.toInt := by rw [BitVec.toNat_inj, BitVec.toInt_inj]
  omega

/-- Settles O30: CMP leaves the flags of the difference, which order its operands; each jump's condition is one of their
comparisons. -/
theorem compareThenJump : Obligations.CompareThenJump := by
  intro f s
  obtain ⟨forms, -⟩ := subSbbCmpNegResults
  obtain ⟨-, -, cmp⟩ := forms f s
  refine ⟨_, cmp, fun d => ?_⟩
  cases f.operands s with
  | b _ a b | w _ a b =>
    have order := Flags.orders_differenceFlags a b s.flags (by decide)
    obtain ⟨jnb, jbe, ja, jnz, jge, jle, jg⟩ := order.conditions
    obtain ⟨-, -, hb, hnb, hz, hnz, hbe, ha, -, -, -, -, hl, hge, hle, hg⟩ :=
      conditionalJumps (s.setFlags (differenceFlags s.flags a b 0)) d
    exact ⟨exec_of_jump hb.2 order.below, exec_of_jump hnb.2 jnb, exec_of_jump hbe.2 jbe, exec_of_jump ha.2 ja,
      exec_of_jump hz.2 order.equal, exec_of_jump hnz.2 jnz, exec_of_jump hl.2 order.less, exec_of_jump hge.2 jge,
      exec_of_jump hle.2 jle, exec_of_jump hg.2 jg⟩

/-! ### Jumps and calls (R251 to R259) -/

/-- Settles O31: IP plus a displacement is the target in numbers; the others are the statement's terms by definition. -/
theorem jumpCallResults : Obligations.JumpCallResults := by
  intro s d8 d16 off sg rm m
  have short : exec (.jmpShort d8) s = .next (s.setIp (s.target d8.toInt)) := by rw [← s.ip_add_sext16]; rfl
  have near : exec (.jmpNear d16) s = .next (s.setIp (s.target d16.toNat)) := by rw [← s.ip_add_eq_target]; rfl
  have call : exec (.callNear d16) s = .next ((s.push16 s.ip).setIp (s.target d16.toNat)) := by
    rw [← s.ip_add_eq_target]; rfl
  exact ⟨short, near, rfl, rfl, rfl, call, rfl, rfl, rfl⟩

/-! ### Returns and loops (R260 to R267) -/

theorem State.popped_popped (s : State) : s.popped.popped = s.setReg .sp (s.reg .sp + 4) := by
  have sp : s.reg .sp + 2 + 2 = s.reg .sp + 4 := by rw [BitVec.add_assoc]; rfl
  rw [← sp]; rfl

theorem State.returnFar_eq (s : State) :
    s.returnFar = ((s.setReg .sp (s.reg .sp + 4)).setIp s.top).setSeg .cs s.popped.top := by
  rw [State.returnFar, State.popped_popped]

/-- Settles O32: two pops raise SP by 4, and a loop's condition is read after the count. -/
theorem returnLoopResults : Obligations.ReturnLoopResults := by
  intro s n d
  have far : exec .retf s = .next s.returnFar := rfl
  have farImm : exec (.retfImm n) s = .next (s.returnFar.release n) := rfl
  have loops {c : Bool} {p : Prop} [Decidable p] (cond : c = true ↔ p) := s.countDown.jumpIf_sext16 cond d
  refine ⟨rfl, rfl, far.trans (by rw [s.returnFar_eq]; rfl), farImm.trans (by rw [s.returnFar_eq]; rfl),
    congrArg Host.Outcome.next (loops ?_), congrArg Host.Outcome.next (loops ?_), congrArg Host.Outcome.next (loops ?_),
    congrArg Host.Outcome.next (s.jumpIf_sext16 ?_ d)⟩
  · exact bne_iff_ne
  · exact Bool.and_eq_true_iff.trans (and_congr_left' bne_iff_ne)
  · exact Bool.and_eq_true_iff.trans (and_congr bne_iff_ne (Bool.not_eq_true' _).to_iff)
  · exact beq_iff_eq

/-! ### A call and its return (R71, R256, R257, R260, R262) -/

/-- Bytes are writable one push after the other. -/
theorem State.writable_stackAddrs_succ (s : State) (v : Word) (k : Nat) :
    s.writable (s.stackAddrs (k + 1)) ↔
      s.writable (s.stackAddrs 1) ∧ (s.push16 v).writable ((s.push16 v).stackAddrs k) := by
  have bytes := s.mem_stackAddrs_succ v k
  simp only [State.writable, State.push16_ro, bytes, or_imp, forall_and]

/-- A word of the stack does not meet the word below it, also where SP wraps around (R68). -/
theorem notMem_wordBelow (sg off : Word) :
    phys sg off ∉ wordAddrs (phys sg (off - 2)) ∧ phys sg off + 1 ∉ wordAddrs (phys sg (off - 2)) := by
  simp only [wordAddrs, phys, List.mem_cons, List.not_mem_nil, or_false, not_or]
  bv_omega

/-- A push keeps the word that was on top. -/
theorem State.top_popped_push16 (s : State) (v : Word) : (s.push16 v).popped.top = s.top := by
  obtain ⟨low, high⟩ := notMem_wordBelow (s.seg .ss) (s.reg .sp)
  have stack : s.stackAddrs 1 = wordAddrs (phys (s.seg .ss) (s.reg .sp - 2)) := List.append_nil _
  have sp : (s.push16 v).popped.reg .sp = s.reg .sp := State.reg_congr (s.regs_popped_push16 v) .sp
  have ss : (s.push16 v).popped.seg .ss = s.seg .ss := s.seg_push16 v .ss
  rw [← stack] at low high
  rw [State.top, sp, ss]
  exact congrArg₂ wordOf (s.readByte_push16 v high) (s.readByte_push16 v low)

theorem State.regs_popped_congr {s t : State} (h : t.regs = s.regs) : t.popped.regs = s.popped.regs :=
  congrArg (fun g : Regs => g.set .sp (g.get .sp + 2)) h

/-- A segment register written with its own value. -/
theorem SegRegs.set_get (g : SegRegs) (r : SReg) : g.set r (g.get r) = g :=
  SegRegs.ext_get fun q => by
    rw [SegRegs.get_set]
    split
    · next same => rw [same]
    · rfl

/-- A return forgets the address that was jumped to. -/
theorem State.returnNear_setIp (s : State) (off : Word) : (s.setIp off).returnNear = s.returnNear := rfl

theorem State.returnFar_jumpFar (s : State) (sg off : Word) : (s.jumpFar sg off).returnFar = s.returnFar := rfl

/-- Settles O33: a return forgets where the call went; a pop reads the word pushed last and leaves the registers as before
that push, so the far return finds IP and then CS. -/
theorem callThenReturn : Obligations.CallThenReturn := by
  intro s d off sg hw h
  obtain ⟨first, second⟩ := (s.writable_stackAddrs_succ (s.seg .cs) 1).mp h
  let p := s.push16 (s.seg .cs)
  have ip : (p.push16 s.ip).top = s.ip := State.top_push16 (State.wf_push16 hw _) second _
  have cs : (p.push16 s.ip).popped.top = s.seg .cs := (p.top_popped_push16 _).trans (State.top_push16 hw first _)
  have regs : (p.push16 s.ip).popped.popped.regs = s.regs :=
    (State.regs_popped_congr (p.regs_popped_push16 _)).trans (s.regs_popped_push16 _)
  have segs : (p.push16 s.ip).segs.set .cs (p.push16 s.ip).popped.top = s.segs := by
    rw [cs, State.push16_segs, State.push16_segs]
    exact s.segs.set_get .cs
  exact ⟨⟨_, (s.push16 s.ip).returnNear, rfl, congrArg Host.Outcome.next (State.returnNear_setIp _ _),
      State.top_push16 hw first _, s.regs_popped_push16 _, by simp, by simp⟩,
    ⟨_, (p.push16 s.ip).returnFar, rfl, congrArg Host.Outcome.next (State.returnFar_jumpFar _ _ _), ip, regs, segs,
      by simp [p]⟩⟩

end Sys2Proof.Machine
end

section
/-! PROOFS of the statements about the string instructions (spec/43_string.md R300 to R308): one iteration in the terms of the
state before it, and one slot of a repeat, which rests on an iteration neither reading nor writing the repeat mode. -/

namespace Sys2Proof.Machine

/-! ### The repeat rule (R301) -/

section
variable {s : State} {compares : Bool} {body : State → State}

theorem State.repeated_norep (norep : s.repMode = .norep) : s.repeated compares body = body s := if_pos norep

theorem State.repeated_cx_zero (prefixed : s.repMode ≠ .norep) (done : s.reg .cx = 0) : s.repeated compares body = s := by
  rw [State.repeated, if_neg prefixed, if_pos done]

/-- With a count left, one iteration, the count, and IP back at the first prefix byte when the repeat goes on. -/
theorem State.repeated_cx_ne_zero (prefixed : s.repMode ≠ .norep) (more : s.reg .cx ≠ 0) {t : State}
    (counted : t = (body s).setReg .cx ((body s).reg .cx - 1)) :
    s.repeated compares body = if t.repeats compares then t.setIp t.firstIp else t := by
  rw [State.repeated, if_neg prefixed, if_neg more, counted]

theorem State.repeats_iff (prefixed : s.repMode ≠ .norep) :
    s.repeats compares = true ↔
      s.reg .cx ≠ 0 ∧ (compares = true → (s.flags.zf = true ↔ s.repMode = .repe)) := by
  unfold State.repeats
  cases mode : s.repMode with
  | norep => exact absurd mode prefixed
  | repe | repne => cases compares <;> simp

end

/-! ### Only the repeat rule reads the repeat mode (R105) -/

section
variable (s : State) (m : RepMode)

@[simp] theorem State.writeByte_setRepMode (a : Addr) (v : Byte) :
    (s.setRepMode m).writeByte a v = (s.writeByte a v).setRepMode m := by
  simp only [State.writeByte, apply_ite (State.setRepMode · m)]
  rfl

@[simp] theorem State.writeDest8_setRepMode (v : Byte) :
    (s.setRepMode m).writeDest8 v = (s.writeDest8 v).setRepMode m := s.writeByte_setRepMode m _ v

@[simp] theorem State.writeDest16_setRepMode (v : Word) :
    (s.setRepMode m).writeDest16 v = (s.writeDest16 v).setRepMode m := by
  have low := s.writeByte_setRepMode m (phys (s.seg .es) (s.reg .di)) (low8 v)
  exact (congrArg (State.writeByte · _ _) low).trans (State.writeByte_setRepMode ..)

theorem State.handlerIn_setRepMode (h : Handler) :
    (s.setRepMode m).handlerIn h = ((s.handlerIn h).1, (s.handlerIn h).2.setRepMode m) := by cases h <;> rfl

@[simp] theorem State.inByte_setRepMode (port : Word) :
    (s.setRepMode m).inByte port = ((s.inByte port).1, (s.inByte port).2.setRepMode m) := by
  simp only [State.inByte, State.setRepMode_ports]
  split
  · exact s.handlerIn_setRepMode m _
  · rfl

@[simp] theorem State.inWord_setRepMode (port : Word) :
    (s.setRepMode m).inWord port = ((s.inWord port).1, (s.inWord port).2.setRepMode m) := by
  simp [State.inWord]

theorem State.handlerOut_setRepMode (port : Word) (v : Byte) (h : Handler) :
    (s.setRepMode m).handlerOut port v h = (s.handlerOut port v h).setRepMode m := by cases h <;> rfl

@[simp] theorem State.outByte_setRepMode (port : Word) (v : Byte) :
    (s.setRepMode m).outByte port v = (s.outByte port v).setRepMode m := by
  simp only [State.outByte, State.setRepMode_ports]
  split
  · exact s.handlerOut_setRepMode m port v _
  · rfl

@[simp] theorem State.outWord_setRepMode (port v : Word) :
    (s.setRepMode m).outWord port v = (s.outWord port v).setRepMode m := by
  simp [State.outWord]

@[simp] theorem State.reg_setRepMode (r : Reg16) : (s.setRepMode m).reg r = s.reg r := rfl
@[simp] theorem State.reg8_setRepMode (r : Reg8) : (s.setRepMode m).reg8 r = s.reg8 r := rfl
@[simp] theorem State.source8_setRepMode : (s.setRepMode m).source8 = s.source8 := rfl
@[simp] theorem State.source16_setRepMode : (s.setRepMode m).source16 = s.source16 := rfl
@[simp] theorem State.stepSi_setRepMode (n : Word) : (s.setRepMode m).stepSi n = (s.stepSi n).setRepMode m := rfl
@[simp] theorem State.stepDi_setRepMode (n : Word) : (s.setRepMode m).stepDi n = (s.stepDi n).setRepMode m := rfl

end

/-! ### The fourteen instructions under the repeat rule -/

/-- The instruction runs `body` under the repeat rule, which compares for CMPS and SCAS. An iteration does not depend on the
repeat mode, keeps the address that a repeat goes back to, and does not write CX. -/
structure RunsRepeated (i : Instr) (compares : Bool) (body : State → State) : Prop where
  runs : ∀ s : State, exec i s = .next (s.repeated compares body)
  setRepMode : ∀ (s : State) (m : RepMode), body (s.setRepMode m) = (body s).setRepMode m
  firstIp : ∀ s : State, (body s).firstIp = s.firstIp := by simp
  keepsCx : ∀ s : State, .cx ∉ (i.footprint (s.setRepMode .norep)).regs := by
    simp [Instr.footprint, State.stringFootprint]
  compares_iff : compares = true ↔ i ∈ [Instr.cmpsb, .cmpsw, .scasb, .scasw] := by decide

theorem runsRepeated_of_mem : ∀ i ∈ [Instr.movsb, .movsw, .cmpsb, .cmpsw, .stosb, .stosw, .lodsb, .lodsw, .scasb, .scasw,
    .insb, .insw, .outsb, .outsw], ∃ compares body, RunsRepeated i compares body := by
  simp only [List.forall_mem_cons]
  exact ⟨
    ⟨_, State.movsb, { runs _ := rfl, setRepMode _ _ := by simp [State.movsb] }⟩,
    ⟨_, State.movsw, { runs _ := rfl, setRepMode _ _ := by simp [State.movsw] }⟩,
    ⟨_, State.cmpsb, { runs _ := rfl, setRepMode _ _ := rfl }⟩,
    ⟨_, State.cmpsw, { runs _ := rfl, setRepMode _ _ := rfl }⟩,
    ⟨_, State.stosb, { runs _ := rfl, setRepMode _ _ := by simp [State.stosb] }⟩,
    ⟨_, State.stosw, { runs _ := rfl, setRepMode _ _ := by simp [State.stosw] }⟩,
    ⟨_, State.lodsb, { runs _ := rfl, setRepMode _ _ := rfl }⟩,
    ⟨_, State.lodsw, { runs _ := rfl, setRepMode _ _ := rfl }⟩,
    ⟨_, State.scasb, { runs _ := rfl, setRepMode _ _ := rfl }⟩,
    ⟨_, State.scasw, { runs _ := rfl, setRepMode _ _ := rfl }⟩,
    ⟨_, State.insb, { runs _ := rfl, setRepMode _ _ := by simp [State.insb] }⟩,
    ⟨_, State.insw, { runs _ := rfl, setRepMode _ _ := by simp [State.insw] }⟩,
    ⟨_, State.outsb, { runs _ := rfl, setRepMode _ _ := by simp [State.outsb] }⟩,
    ⟨_, State.outsw, { runs _ := rfl, setRepMode _ _ := by simp [State.outsw] }⟩,
    List.forall_mem_nil _⟩

namespace RunsRepeated

variable {i : Instr} {compares : Bool} {body : State → State}

/-- Without the prefix the instruction is one iteration. -/
theorem exec_norep (run : RunsRepeated i compares body) (s : State) :
    exec i (s.setRepMode .norep) = .next ((body s).setRepMode .norep) := by
  rw [run.runs, State.repeated_norep rfl, run.setRepMode]

theorem repMode (run : RunsRepeated i compares body) (s : State) : (body s).repMode = s.repMode := by
  have kept := congrArg State.repMode (run.setRepMode s s.repMode)
  rwa [State.setRepMode_self] at kept

/-- The frame of the instruction without the prefix is the frame of its iteration. -/
theorem cx (run : RunsRepeated i compares body) (s : State) : (body s).reg .cx = s.reg .cx :=
  (writesWithin_of_exec (run.exec_norep s)).regs .cx (run.keepsCx s)

end RunsRepeated

/-- Settles O35: the slot of a repeat with its iteration named; the iteration keeps CX, the repeat mode and the address of the
first prefix byte, so that the count is CX - 1 and the way back is the one of the state before. -/
theorem repeatRule : Obligations.RepeatRule := by
  intro i s mem prefixed
  obtain ⟨compares, body, run⟩ := runsRepeated_of_mem i mem
  refine ⟨fun done => by rw [run.runs, State.repeated_cx_zero prefixed done], fun more => ⟨_, run.exec_norep s, ?_⟩⟩
  intro t matchesZf
  have mode : t.repMode = s.repMode := rfl
  have counted : t = (body s).setReg .cx ((body s).reg .cx - 1) := by
    rw [run.cx]
    exact congrArg (State.setRepMode ((body s).setReg .cx (s.reg .cx - 1))) (run.repMode s).symm
  have back : t.firstIp = s.firstIp := run.firstIp s
  have slot : exec i s = .next (if t.repeats compares then t.setIp s.firstIp else t) := by
    rw [run.runs, State.repeated_cx_ne_zero prefixed more counted, back]
  have goesOn : t.repeats compares = true ↔ t.reg .cx ≠ 0 ∧ matchesZf := by
    rw [State.repeats_iff (mode.trans_ne prefixed), run.compares_iff, mode]
  exact ⟨fun h => by rw [slot, if_pos (goesOn.mpr h)], fun h => by rw [slot, if_neg (mt goesOn.mp h)]⟩

/-! ### One iteration (R300, R302 to R308) -/

section
variable (s : State) {t : State} (n : Word)

theorem State.delta_congr (flags : t.flags = s.flags) : t.delta n = s.delta n := by
  simp only [State.delta, flags]

/-- An index register steps from its value before what keeps registers and flags. -/
theorem State.stepSi_congr (regs : t.regs = s.regs := by simp) (flags : t.flags = s.flags := by simp) :
    t.stepSi n = t.setReg .si (s.reg .si + s.delta n) := by
  rw [State.stepSi, State.reg_congr regs, s.delta_congr n flags]

theorem State.stepDi_congr (regs : t.regs = s.regs := by simp) (flags : t.flags = s.flags := by simp) :
    t.stepDi n = t.setReg .di (s.reg .di + s.delta n) := by
  rw [State.stepDi, State.reg_congr regs, s.delta_congr n flags]

/-- The step of SI keeps DI and DF. -/
theorem State.stepDi_stepSi_congr (regs : t.regs = s.regs := by simp) (flags : t.flags = s.flags := by simp) :
    (t.stepSi n).stepDi n = (t.setReg .si (s.reg .si + s.delta n)).setReg .di (s.reg .di + s.delta n) := by
  rw [State.stepDi, State.stepSi_congr s n regs flags, State.reg_setReg_ne _ _ (by decide), State.reg_congr regs,
    s.delta_congr n (t := t.setReg ..) flags]

end

/-- A destination is at ES:DI, also after a port was read. -/
theorem State.writeDest8_congr {s t : State} (segs : t.segs = s.segs) (regs : t.regs = s.regs) (v : Byte) :
    t.writeDest8 v = t.writeByte (phys (s.seg .es) (s.reg .di)) v := by
  rw [State.writeDest8, State.seg_congr segs, State.reg_congr regs]; rfl

theorem State.writeDest16_congr {s t : State} (segs : t.segs = s.segs) (regs : t.regs = s.regs) (v : Word) :
    t.writeDest16 v = t.writeWord (phys (s.seg .es) (s.reg .di)) v := by
  rw [State.writeDest16, State.seg_congr segs, State.reg_congr regs]; rfl

/-- Settles O34: each iteration reads its operands in the state before it; the index registers step from their old values,
since what an iteration does before the step keeps them and DF. -/
theorem stringIterations : Obligations.StringIterations := by
  intro s norep src dst by1 by2 si di
  have once {compares : Bool} {body : State → State} {t : State} (h : body s = t) :
      (.next (s.repeated compares body) : Host.Outcome State Fault Refusal) = .next t := by
    rw [State.repeated_norep norep, h]
  have compared {w : Nat} (a b : BitVec w) (wide : 4 < w) :
      s.setFlags (s.flags.afterSub a b false) = s.setFlags (differenceFlags s.flags a b 0) :=
    congrArg s.setFlags (Flags.afterSub_eq_differenceFlags a b false s.flags wide)
  refine ⟨once (s.stepDi_stepSi_congr 1), once (s.stepDi_stepSi_congr 2),
    once (congrArg (fun t : State => (t.stepSi 1).stepDi 1) (compared _ _ (by decide))),
    once (congrArg (fun t : State => (t.stepSi 2).stepDi 2) (compared _ _ (by decide))),
    once (s.stepDi_congr 1), once (s.stepDi_congr 2), once rfl, once rfl,
    once (congrArg (fun t : State => t.stepDi 1) (compared _ _ (by decide))),
    once (congrArg (fun t : State => t.stepDi 2) (compared _ _ (by decide))), ?_, ?_,
    once (s.stepSi_congr 1), once (s.stepSi_congr 2)⟩
  · have stored := State.writeDest8_congr (s.inByte_snd_segs (s.reg .dx)) (s.inByte_snd_regs _) (s.inByte (s.reg .dx)).1
    exact once ((congrArg (fun t : State => t.stepDi 1) stored).trans (s.stepDi_congr 1))
  · have stored := State.writeDest16_congr (s.inWord_snd_segs (s.reg .dx)) (s.inWord_snd_regs _) (s.inWord (s.reg .dx)).1
    exact once ((congrArg (fun t : State => t.stepDi 2) stored).trans (s.stepDi_congr 2))

end Sys2Proof.Machine
end

section
/-! PROOFS of the statements about shifts and rotates (spec/44_shift_rotate.md R330 to R339): one turn of each loop is a library
operation by 1, n turns are the same operation by n, and CF is the bit that the last turn moved out. -/

namespace Sys2Proof.Machine

/-! ### Rotations by a sum of counts, and by 1 -/

section
variable {w : Nat} (x : BitVec w)

theorem rotateLeft_zero : x.rotateLeft 0 = x := by
  rw [BitVec.rotateLeft_def, Nat.zero_mod, BitVec.shiftLeft_zero, Nat.sub_zero, BitVec.ushiftRight_eq_zero le_rfl,
    BitVec.or_zero]

theorem rotateRight_zero : x.rotateRight 0 = x := by
  rw [BitVec.rotateRight_def, Nat.zero_mod, BitVec.ushiftRight_zero, Nat.sub_zero, BitVec.shiftLeft_eq_zero le_rfl,
    BitVec.or_zero]

theorem rotateLeft_add (m n : Nat) : x.rotateLeft (m + n) = (x.rotateLeft m).rotateLeft n := by
  apply BitVec.eq_of_getMsbD_eq
  intro i lt
  have reduced : (n + i) % w < w := Nat.mod_lt _ (by omega)
  simp only [BitVec.getMsbD_rotateLeft, lt, reduced, decide_true, Bool.true_and, Nat.add_mod_mod, Nat.add_assoc]

theorem getLsbD_rotateRight_mod (n i : Nat) :
    (x.rotateRight n).getLsbD i = (decide (i < w) && x.getLsbD ((n + i) % w)) := by
  by_cases lt : i < w
  · have small : n % w < w := Nat.mod_lt _ (by omega)
    rw [BitVec.getLsbD_rotateRight, ← Nat.mod_add_mod]
    by_cases inside : i < w - n % w
    · simp [lt, inside, Nat.mod_eq_of_lt (show n % w + i < w by omega)]
    · have around : (n % w + i) % w = i - (w - n % w) := by
        rw [Nat.mod_eq_sub_mod (by omega), Nat.mod_eq_of_lt (by omega)]
        omega
      simp [lt, inside, around]
  · rw [BitVec.getLsbD_of_ge _ _ (by omega), decide_eq_false lt, Bool.false_and]

theorem rotateRight_add (m n : Nat) : x.rotateRight (m + n) = (x.rotateRight m).rotateRight n := by
  apply BitVec.eq_of_getLsbD_eq
  intro i lt
  have reduced : (n + i) % w < w := Nat.mod_lt _ (by omega)
  simp only [getLsbD_rotateRight_mod, lt, reduced, decide_true, Bool.true_and, Nat.add_mod_mod, Nat.add_assoc]

theorem getLsbD_rotateLeft_one (wide : 1 < w) (i : Nat) :
    (x.rotateLeft 1).getLsbD i = (decide (i < w) && if i = 0 then x.msb else x.getLsbD (i - 1)) := by
  rw [BitVec.getLsbD_rotateLeft, Nat.mod_eq_of_lt wide]
  by_cases zero : i = 0
  · simp [zero, x.msb_eq_getLsbD_last, Nat.zero_lt_of_lt wide]
  · simp [zero]

theorem getLsbD_rotateRight_one (i : Nat) :
    (x.rotateRight 1).getLsbD i = (decide (i < w) && x.getLsbD (if i + 1 = w then 0 else i + 1)) := by
  rw [getLsbD_rotateRight_mod, Nat.add_comm 1]
  by_cases last : i + 1 = w
  · simp [last]
  · by_cases lt : i < w
    · rw [if_neg last, Nat.mod_eq_of_lt (by omega)]
    · simp [lt]

end

/-! ### A bit moved in at an end -/

section
variable {w : Nat} (v : BitVec w) (c : Bool)

theorem getLsbD_topBit (pos : 0 < w) (i : Nat) : (topBit c : BitVec w).getLsbD i = (decide (i + 1 = w) && c) := by
  rw [topBit, BitVec.getLsbD_shiftLeft, BitVec.getLsbD_setWidth, BitVec.getLsbD_ofBool]
  by_cases last : i + 1 = w
  · subst last
    simp
  · obtain below | above : i < w - 1 ∨ ¬ i < w := by omega
    · simp [last, below]
    · simp [last, above]

theorem getLsbD_bitIn_low (i : Nat) :
    (v <<< 1 ||| bottomBit c).getLsbD i = (decide (i < w) && if i = 0 then c else v.getLsbD (i - 1)) := by
  rw [BitVec.getLsbD_or, BitVec.getLsbD_shiftLeft, bottomBit, BitVec.getLsbD_setWidth, BitVec.getLsbD_ofBool]
  by_cases zero : i = 0
  · simp [zero]
  · simp [zero]

theorem getLsbD_bitIn_high (pos : 0 < w) (i : Nat) :
    (v >>> 1 ||| topBit c).getLsbD i = if i + 1 = w then c else v.getLsbD (i + 1) := by
  rw [BitVec.getLsbD_or, BitVec.getLsbD_ushiftRight, getLsbD_topBit c pos, Nat.add_comm 1]
  by_cases last : i + 1 = w
  · simp [last]
  · simp [last]

end

/-! ### One turn -/

section
variable {w : Nat} (v : BitVec w) (c : Bool)

theorem turn_rol (wide : 1 < w) : ShiftOp.rol.turn (v, c) = (v.rotateLeft 1, (v.rotateLeft 1).getLsbD 0) := by
  have value : v <<< 1 ||| bottomBit v.msb = v.rotateLeft 1 :=
    BitVec.eq_of_getLsbD_eq fun i _ => by rw [getLsbD_bitIn_low, getLsbD_rotateLeft_one v wide]
  have carry : (v.rotateLeft 1).getLsbD 0 = v.msb := by
    rw [getLsbD_rotateLeft_one v wide, decide_eq_true (Nat.zero_lt_of_lt wide)]; rfl
  rw [carry, ← value]; rfl

theorem turn_ror (pos : 0 < w) : ShiftOp.ror.turn (v, c) = (v.rotateRight 1, (v.rotateRight 1).msb) := by
  have value : v >>> 1 ||| topBit (v.getLsbD 0) = v.rotateRight 1 :=
    BitVec.eq_of_getLsbD_eq fun i lt => by
      rw [getLsbD_bitIn_high _ _ pos, getLsbD_rotateRight_one, decide_eq_true lt, Bool.true_and, apply_ite v.getLsbD]
  have carry : (v.rotateRight 1).msb = v.getLsbD 0 := by
    rw [BitVec.msb_eq_getLsbD_last, getLsbD_rotateRight_one, if_pos (by omega), decide_eq_true (by omega),
      Bool.true_and]
  rw [carry, ← value]; rfl

/-- The value with CF above it: what RCL and RCR rotate. -/
def withCarry (x : BitVec w × Bool) : BitVec (w + 1) := BitVec.cons x.2 x.1

theorem eq_of_withCarry_eq {x : BitVec w × Bool} {y : BitVec (w + 1)} (h : withCarry x = y) :
    x = (y.setWidth w, y.msb) := by
  rw [← h, withCarry, BitVec.setWidth_cons, BitVec.msb_cons]

theorem withCarry_turn_rcl (pos : 0 < w) (x : BitVec w × Bool) :
    withCarry (ShiftOp.rcl.turn x) = (withCarry x).rotateLeft 1 := by
  apply BitVec.eq_of_getLsbD_eq
  intro i lt
  have below : i - 1 ≠ w := by omega
  simp only [withCarry, ShiftOp.turn, getLsbD_rotateLeft_one _ (Nat.succ_lt_succ pos), BitVec.getLsbD_cons,
    getLsbD_bitIn_low, BitVec.msb_cons, decide_eq_true lt, Bool.true_and, if_neg below]
  by_cases top : i = w
  · rw [if_pos top, if_neg (by omega), top, BitVec.msb_eq_getLsbD_last]
  · rw [if_neg top, decide_eq_true (by omega), Bool.true_and]

theorem withCarry_turn_rcr (pos : 0 < w) (x : BitVec w × Bool) :
    withCarry (ShiftOp.rcr.turn x) = (withCarry x).rotateRight 1 := by
  apply BitVec.eq_of_getLsbD_eq
  intro i lt
  simp only [withCarry, ShiftOp.turn, getLsbD_rotateRight_one, BitVec.getLsbD_cons, getLsbD_bitIn_high _ _ pos,
    decide_eq_true lt, Bool.true_and, Nat.add_right_cancel_iff]
  by_cases top : i = w
  · rw [if_pos top, if_pos top, if_neg pos.ne]
  · rw [if_neg top, if_neg top]

theorem turn_sar (pos : 0 < w) : ShiftOp.sar.turn (v, c) = (v.sshiftRight 1, v.getLsbD 0) := by
  have value : v >>> 1 ||| topBit v.msb = v.sshiftRight 1 :=
    BitVec.eq_of_getLsbD_eq fun i lt => by
      rw [getLsbD_bitIn_high _ _ pos, BitVec.getLsbD_sshiftRight, Nat.add_comm 1]
      have signs : i + 1 = w ↔ ¬ i + 1 < w := by omega
      simp only [signs, ite_not, decide_eq_false (Nat.not_le_of_lt lt), Bool.not_false, Bool.true_and]
  rw [← value]; rfl

end

/-! ### n turns -/

section
variable {w : Nat} (op : ShiftOp) (n : Nat) (x : BitVec w × Bool)

/-- The last turn apart from those before it. -/
theorem turns_add_one : op.turns (n + 1) x = op.turn (op.turns n x) := by
  induction n generalizing x with
  | zero => rfl
  | succ n ih => exact ih (op.turn x)

theorem turns_shl_fst : (ShiftOp.shl.turns n x).1 = x.1 <<< n := by
  induction n with
  | zero => exact (BitVec.shiftLeft_zero _).symm
  | succ n ih => rw [turns_add_one, BitVec.shiftLeft_add, ← ih]; rfl

theorem turns_shr_fst : (ShiftOp.shr.turns n x).1 = x.1 >>> n := by
  induction n with
  | zero => exact (BitVec.ushiftRight_zero _).symm
  | succ n ih => rw [turns_add_one, BitVec.shiftRight_add, ← ih]; rfl

theorem turns_sar_fst (pos : 0 < w) : (ShiftOp.sar.turns n x).1 = x.1.sshiftRight n := by
  induction n with
  | zero => exact BitVec.sshiftRight_zero.symm
  | succ n ih => rw [turns_add_one, turn_sar _ _ pos, BitVec.sshiftRight_add, ← ih]

theorem turns_rol_fst (wide : 1 < w) : (ShiftOp.rol.turns n x).1 = x.1.rotateLeft n := by
  induction n with
  | zero => exact (rotateLeft_zero _).symm
  | succ n ih => rw [turns_add_one, turn_rol _ _ wide, rotateLeft_add, ← ih]

theorem turns_ror_fst (pos : 0 < w) : (ShiftOp.ror.turns n x).1 = x.1.rotateRight n := by
  induction n with
  | zero => exact (rotateRight_zero _).symm
  | succ n ih => rw [turns_add_one, turn_ror _ _ pos, rotateRight_add, ← ih]

theorem withCarry_turns_rcl (pos : 0 < w) : withCarry (ShiftOp.rcl.turns n x) = (withCarry x).rotateLeft n := by
  induction n with
  | zero => exact (rotateLeft_zero _).symm
  | succ n ih => rw [turns_add_one, withCarry_turn_rcl pos, ih, rotateLeft_add]

theorem withCarry_turns_rcr (pos : 0 < w) : withCarry (ShiftOp.rcr.turns n x) = (withCarry x).rotateRight n := by
  induction n with
  | zero => exact (rotateRight_zero _).symm
  | succ n ih => rw [turns_add_one, withCarry_turn_rcr pos, ih, rotateRight_add]

end

/-! ### The closed forms (R331 to R337) -/

section
variable {w : Nat} (n : Nat) (v : BitVec w) (c : Bool)

/-- CF after SHL: the bit moved out last, 0 once all bits are out (R335). -/
theorem msb_shiftLeft_eq_getLsbD : (v <<< n).msb = (decide (n + 1 ≤ w) && v.getLsbD (w - (n + 1))) := by
  rw [BitVec.msb_shiftLeft, BitVec.getMsbD, Nat.sub_right_comm, Nat.sub_sub]
  rfl

/-- CF after SHR: likewise at the other end (R336). -/
theorem getLsbD_zero_ushiftRight : (v >>> n).getLsbD 0 = (decide (n + 1 ≤ w) && v.getLsbD n) := by
  rw [BitVec.getLsbD_ushiftRight, Nat.add_zero]
  by_cases inside : n < w
  · rw [decide_eq_true (Nat.succ_le_of_lt inside), Bool.true_and]
  · rw [BitVec.getLsbD_of_ge _ _ (Nat.le_of_not_lt inside), Bool.and_false]

/-- CF after SAR: the sign once all bits are out (R337). -/
theorem getLsbD_zero_sshiftRight (pos : 0 < w) :
    (v.sshiftRight n).getLsbD 0 = if n + 1 < w then v.getLsbD n else v.msb := by
  rw [BitVec.getLsbD_sshiftRight, decide_eq_false (Nat.not_le_of_lt pos), Bool.not_false, Bool.true_and, Nat.add_zero]
  by_cases last : n + 1 = w
  · rw [if_pos (by omega), if_neg (by omega), BitVec.msb_eq_getLsbD_last, Nat.eq_sub_of_add_eq last]
  · have inside : n < w ↔ n + 1 < w := by omega
    simp only [inside]

theorem turns_shl_eq_closed : ShiftOp.shl.turns (n + 1) (v, c) = ShiftOp.shl.closed (n + 1) v c := by
  apply Prod.ext
  · apply BitVec.eq_of_toNat_eq
    rw [turns_shl_fst, ShiftOp.closed, BitVec.toNat_shiftLeft, BitVec.toNat_ofNat, Nat.shiftLeft_eq]
  · rw [turns_add_one, ShiftOp.closed, ← msb_shiftLeft_eq_getLsbD, ← turns_shl_fst n (v, c)]
    rfl

theorem turns_shr_eq_closed : ShiftOp.shr.turns (n + 1) (v, c) = ShiftOp.shr.closed (n + 1) v c := by
  apply Prod.ext
  · rw [turns_shr_fst, ShiftOp.closed, ← Nat.shiftRight_eq_div_pow, ← BitVec.toNat_ushiftRight, BitVec.ofNat_toNat,
      BitVec.setWidth_eq]
  · rw [turns_add_one, ShiftOp.closed, Nat.add_sub_cancel, ← getLsbD_zero_ushiftRight, ← turns_shr_fst n (v, c)]
    rfl

theorem turns_sar_eq_closed (pos : 0 < w) : ShiftOp.sar.turns (n + 1) (v, c) = ShiftOp.sar.closed (n + 1) v c := by
  apply Prod.ext
  · rw [turns_sar_fst _ _ pos, ShiftOp.closed, BitVec.sshiftRight_eq, Int.shiftRight_eq_div_pow]
    rfl
  · rw [turns_add_one, ShiftOp.closed, Nat.add_sub_cancel, ← getLsbD_zero_sshiftRight n v pos,
      ← turns_sar_fst n (v, c) pos]
    rfl

theorem turns_rol_eq_closed (wide : 1 < w) : ShiftOp.rol.turns (n + 1) (v, c) = ShiftOp.rol.closed (n + 1) v c := by
  rw [turns_add_one, turn_rol _ _ wide, turns_rol_fst _ _ wide, ← rotateLeft_add, ShiftOp.closed,
    BitVec.rotateLeft_mod_eq_rotateLeft]

theorem turns_ror_eq_closed (pos : 0 < w) : ShiftOp.ror.turns (n + 1) (v, c) = ShiftOp.ror.closed (n + 1) v c := by
  rw [turns_add_one, turn_ror _ _ pos, turns_ror_fst _ _ pos, ← rotateRight_add, ShiftOp.closed,
    BitVec.rotateRight_mod_eq_rotateRight]

theorem turns_rcl_eq_closed (pos : 0 < w) : ShiftOp.rcl.turns n (v, c) = ShiftOp.rcl.closed n v c := by
  rw [eq_of_withCarry_eq (withCarry_turns_rcl n (v, c) pos), ShiftOp.closed, BitVec.rotateLeft_mod_eq_rotateLeft]
  rfl

theorem turns_rcr_eq_closed (pos : 0 < w) : ShiftOp.rcr.turns n (v, c) = ShiftOp.rcr.closed n v c := by
  rw [eq_of_withCarry_eq (withCarry_turns_rcr n (v, c) pos), ShiftOp.closed, BitVec.rotateRight_mod_eq_rotateRight]
  rfl

/-- The repeat loop of R331 to R337 in closed form, for every positive count. -/
theorem turns_eq_closed (op : ShiftOp) (wide : 1 < w) {n : Nat} (count : n ≠ 0) :
    op.turns n (v, c) = op.closed n v c := by
  have pos := Nat.zero_lt_of_lt wide
  obtain ⟨n, rfl⟩ := Nat.exists_eq_add_one_of_ne_zero count
  cases op with
  | rol => exact turns_rol_eq_closed n v c wide
  | ror => exact turns_ror_eq_closed n v c pos
  | rcl => exact turns_rcl_eq_closed _ v c pos
  | rcr => exact turns_rcr_eq_closed _ v c pos
  | shl => exact turns_shl_eq_closed n v c
  | shr => exact turns_shr_eq_closed n v c
  | sar => exact turns_sar_eq_closed n v c pos

/-! ### The flags (R339) -/

theorem unitOverflow_eq_closedOverflow (op : ShiftOp) (res : BitVec w) (cf : Bool) :
    op.unitOverflow v c res cf = op.closedOverflow v res c cf := by
  cases op <;> rfl

theorem writesSzp_iff (op : ShiftOp) : op.writesSzp = true ↔ op = .shl ∨ op = .shr ∨ op = .sar := by
  cases op <;> decide

theorem Flags.afterShift_eq_shiftFlags (f : Flags) (op : ShiftOp) (wide : 1 < w) {n : Nat} (count : n ≠ 0)
    (freeOf freeAf : Bool) : f.afterShift op n v freeOf freeAf = shiftFlags f op n v freeOf freeAf := by
  simp only [Flags.afterShift, shiftFlags, turns_eq_closed v f.cf op wide count, unitOverflow_eq_closedOverflow,
    writesSzp_iff, resultFlags_eq]

end

/-! ### The instructions -/

/-- The state that a shift or rotate by n > 0 leaves, in closed form. -/
def State.shiftClosed (s : State) (op : ShiftOp) (x : Operand) (n : Nat) : State :=
  match x with
  | .b d v => (s.flagged (shiftFlags s.flags op n v (s.freeBit 0) (s.freeBit 1)) 2).write8 d
      (op.closed n v s.flags.cf).1
  | .w d v => (s.flagged (shiftFlags s.flags op n v (s.freeBit 0) (s.freeBit 1)) 2).write16 d
      (op.closed n v s.flags.cf).1

theorem State.shift_zero (s : State) (op : ShiftOp) (x : Operand) : s.shift op x 0 = s := rfl

theorem State.shift_ne_zero (s : State) (op : ShiftOp) (x : Operand) {n : Nat} (count : n ≠ 0) :
    s.shift op x n = s.shiftClosed op x n := by
  unfold State.shift
  rw [if_neg count]
  cases x with
  | b d v | w d v =>
    simp only [turns_eq_closed v _ op (by decide) count, Flags.afterShift_eq_shiftFlags v _ op (by decide) count]
    rfl

/-- Both clauses of the statements, for an instruction that is a shift or rotate. -/
theorem exec_shift {i : Instr} {op : ShiftOp} {x : RmForm} {k : ShiftCount} {s : State}
    (runs : exec i s = .next (s.shift op (x.operand s) (k.value s))) :
    (k.value s = 0 → exec i s = .next s) ∧
    (k.value s ≠ 0 → exec i s = .next (s.shiftClosed op (x.operand s) (k.value s))) :=
  ⟨fun zero => by rw [runs, zero, State.shift_zero], fun count => by rw [runs, State.shift_ne_zero _ _ _ count]⟩

/-- The mask of the count keeps all its bits (D13). -/
theorem toNat_and_shiftCountMask (b : Byte) : (b &&& Config.shiftCountMask).toNat = b.toNat :=
  congrArg BitVec.toNat BitVec.and_allOnes

/-- Settles O36: each of the three instructions is a shift of its operand, whose loop has a closed form at any count. -/
theorem shiftResults : Obligations.ShiftResults := by
  intro x n s op i mem
  simp only [List.mem_cons, Prod.mk.injEq, List.not_mem_nil, or_false] at mem
  obtain ⟨rfl, rfl⟩ | ⟨rfl, rfl⟩ | ⟨rfl, rfl⟩ := mem <;> exact exec_shift rfl

/-- Settles O37: each of the four instructions is a rotate of its operand, whose loop has a closed form at any count, and the
mask leaves the counts as they are. -/
theorem rotateResults : Obligations.RotateResults := by
  refine ⟨fun x n s op i mem => ?_,
    fun _ _ => ⟨toNat_and_shiftCountMask 1, toNat_and_shiftCountMask _, toNat_and_shiftCountMask _⟩⟩
  simp only [List.mem_cons, Prod.mk.injEq, List.not_mem_nil, or_false] at mem
  obtain ⟨rfl, rfl⟩ | ⟨rfl, rfl⟩ | ⟨rfl, rfl⟩ | ⟨rfl, rfl⟩ := mem <;> exact exec_shift rfl

end Sys2Proof.Machine
end

section
/-! PROOFS of the statements about multiply and divide (spec/45_muldiv.md R360 to R365, spec/49_ext186.md R466, R467): a number
fits w bits exactly when reducing it modulo 2^w keeps it, quotient and remainder are the library's, then each instruction by its
operand's width. -/

namespace Sys2Proof.Machine

/-! ### Signed numbers in halves -/

/-- A number fits exactly when its w-bit encoding reads back as it. -/
theorem toInt_ofInt_eq_self_iff {w : Nat} (pos : 0 < w) (n : Int) :
    (BitVec.ofInt w n).toInt = n ↔ fitsSigned w n = true := by
  rw [fitsSigned_iff]
  refine ⟨fun same => ?_, fun ⟨low, high⟩ => BitVec.toInt_ofInt_eq_self pos low high⟩
  rw [← same]
  exact ⟨BitVec.le_toInt _, BitVec.toInt_lt⟩

/-- A field of a number's bits is the number shifted right, reduced to the field. -/
theorem extractLsb'_ofInt {v : Nat} (start len : Nat) (inside : start + len ≤ v) (n : Int) :
    (BitVec.ofInt v n).extractLsb' start len = BitVec.ofInt len (n / 2 ^ start) := by
  obtain ⟨k, rfl⟩ := Nat.exists_eq_add_of_le inside
  have field : n % (2 ^ start * (2 ^ len * 2 ^ k)) / 2 ^ start % 2 ^ len = n / 2 ^ start % 2 ^ len := by
    rw [Int.emod_def n, Int.mul_assoc, Int.sub_mul_ediv_left _ _ (pow_ne_zero _ two_ne_zero), Int.mul_assoc,
      Int.sub_mul_emod_self_left]
  have nonneg (m : Int) (j : Nat) : 0 ≤ m % 2 ^ j := Int.emod_nonneg _ (by positivity)
  apply BitVec.eq_of_toNat_eq
  apply Int.ofNat_inj.mp
  rw [BitVec.extractLsb'_toNat, Nat.shiftRight_eq_div_pow, BitVec.toNat_ofInt, BitVec.toNat_ofInt]
  push_cast [Int.toNat_of_nonneg (nonneg _ _)]
  rw [pow_add, pow_add, Int.mul_assoc, field]

theorem extractLsb'_zero_ofInt {v w : Nat} (le : w ≤ v) (n : Int) :
    (BitVec.ofInt v n).extractLsb' 0 w = BitVec.ofInt w n := by
  rw [extractLsb'_ofInt 0 w ((Nat.zero_add w).trans_le le), pow_zero, Int.ediv_one]

/-- The sign extension of the low half is the number exactly when the number fits the half (R361). -/
theorem ofInt_ne_signExtend_low {v w : Nat} (pos : 0 < w) (le : w ≤ v) {n : Int} (fits : fitsSigned v n = true) :
    (BitVec.ofInt v n != ((BitVec.ofInt v n).extractLsb' 0 w).signExtend v) = !fitsSigned w n := by
  have whole := (toInt_ofInt_eq_self_iff (Nat.lt_of_lt_of_le pos le) n).mpr fits
  refine congrArg not (Bool.eq_iff_iff.mpr ?_)
  rw [beq_iff_eq, ← BitVec.toInt_inj, extractLsb'_zero_ofInt le, BitVec.toInt_signExtend_of_le le, whole, eq_comm,
    toInt_ofInt_eq_self_iff pos]

/-- A signed product fits twice the width. -/
theorem fitsSigned_product {w : Nat} (pos : 0 < w) (a b : BitVec w) :
    fitsSigned (w * 2) (a.toInt * b.toInt) = true := by
  have low := BitVec.le_toInt_mul_toInt (x := a) (y := b)
  have high := BitVec.toInt_mul_toInt_le (x := a) (y := b)
  have double : (2 : Int) ^ (w * 2 - 1) = 2 * 2 ^ (w * 2 - 2) := by
    rw [← pow_succ', show w * 2 - 1 = w * 2 - 2 + 1 by omega]
  have quarter : (0 : Int) < 2 ^ (w * 2 - 2) := by positivity
  rw [fitsSigned_iff, double]
  omega

/-! ### The multiplies (R360, R361, R466, R467) -/

theorem exec_imul_b (rm : RM8) (s : State) :
    let p := (s.reg8 .al).toInt * (s.read8 (s.loc rm)).toInt
    exec (.imul (.b rm)) s
      = .next ((s.flagged (s.multiplyFlags (!fitsSigned 8 p)) 4).setReg .ax (BitVec.ofInt 16 p)) := by
  intro p
  have overflow := ofInt_ne_signExtend_low (v := 16) (w := 8) (by decide) (by decide)
    (fitsSigned_product (by decide) (s.reg8 .al) (s.read8 (s.loc rm)))
  rw [← overflow]
  rfl

theorem exec_imul_w (rm : RM16) (s : State) :
    let p := (s.reg .ax).toInt * (s.read16 (s.loc rm)).toInt
    exec (.imul (.w rm)) s
      = .next (((s.flagged (s.multiplyFlags (!fitsSigned 16 p)) 4).setReg .dx (BitVec.ofInt 16 (p / 65536))).setReg .ax
          (BitVec.ofInt 16 p)) := by
  intro p
  have overflow := ofInt_ne_signExtend_low (v := 32) (w := 16) (by decide) (by decide)
    (fitsSigned_product (by decide) (s.reg .ax) (s.read16 (s.loc rm)))
  have high : (BitVec.ofInt 32 p).extractLsb' 16 16 = BitVec.ofInt 16 (p / 65536) :=
    extractLsb'_ofInt 16 16 (by decide) p
  have low : (BitVec.ofInt 32 p).extractLsb' 0 16 = BitVec.ofInt 16 p := extractLsb'_zero_ofInt (by decide) p
  rw [← overflow, ← high, ← low]
  rfl

theorem State.mulInto_eq (s : State) (r : Reg16) (a b : Word) :
    let p := a.toInt * b.toInt
    s.mulInto r a b = (s.flagged (s.multiplyFlags (!fitsSigned 16 p)) 4).setReg r (BitVec.ofInt 16 p) := by
  intro p
  have overflow : decide (p ≠ (BitVec.ofInt 16 p).toInt) = !fitsSigned 16 p := by
    rw [Bool.eq_iff_iff, decide_eq_true_iff, Bool.not_eq_true', ← Bool.not_eq_true,
      ← toInt_ofInt_eq_self_iff (by decide), ne_comm]
  rw [← overflow]
  rfl

/-- Settles O38: MUL's test of its high half is a bound on the product; the flag of each IMUL says whether the product fits. -/
theorem multiplyResults : Obligations.MultiplyResults := by
  refine ⟨fun x s => ⟨?_, ?_⟩, fun r rm i16 i8 s => ⟨?_, ?_⟩⟩
  · have large (p n : Nat) : p / (n + 1) ≠ 0 ↔ n + 1 ≤ p := by simp
    cases x with
    | b rm | w rm =>
      simp only [RmForm.operand, large]
      rfl
  · cases x with
    | b rm => exact exec_imul_b rm s
    | w rm => exact exec_imul_w rm s
  · exact congrArg _ (s.mulInto_eq ..)
  · have extended : (sext16 i8).toInt = i8.toInt := BitVec.toInt_signExtend_of_le (by decide)
    rw [← extended]
    exact congrArg _ (s.mulInto_eq ..)

/-! ### Quotients and remainders (R362, R363, R365) -/

theorem toNat_append_eq {v w : Nat} (high : BitVec v) (low : BitVec w) :
    (high ++ low).toNat = high.toNat * 2 ^ w + low.toNat := by
  rw [BitVec.toNat_append, ← Nat.shiftLeft_add_eq_or_of_lt low.isLt, Nat.shiftLeft_eq]

theorem toInt_append_neg_iff {v w : Nat} (pos : 0 < v) (high : BitVec v) (low : BitVec w) :
    (high ++ low).toInt < 0 ↔ high.toInt < 0 := by
  rw [← msb_iff_toInt_neg, BitVec.msb_append, if_neg (Nat.ne_of_gt pos), msb_iff_toInt_neg]

/-- What DIV computes when it does not fault: floor division. -/
theorem unsigned_quotient {n largest w : Nat} {d : BitVec w} {faults : Bool}
    (h : faults = true ↔ d = 0 ∨ largest < n / d.toNat) (sound : faults = false) :
    n = n / d.toNat * d.toNat + n % d.toNat ∧ n % d.toNat < d.toNat ∧ n / d.toNat < largest + 1 := by
  obtain ⟨nonzero, fits⟩ := not_or.mp (mt h.mpr (Bool.eq_false_iff.mp sound))
  have pos : 0 < d.toNat := Nat.pos_of_ne_zero fun zero => nonzero (BitVec.eq_of_toNat_eq zero)
  exact ⟨(Nat.div_add_mod' ..).symm, Nat.mod_lt _ pos, Nat.lt_succ_of_le (Nat.le_of_not_lt fits)⟩

/-- What IDIV computes when it does not fault: division that rounds toward zero, with the remainder of the dividend's sign. -/
theorem signed_quotient {n : Int} {w : Nat} {d : BitVec w} {faults : Bool}
    (h : faults = true ↔ d = 0 ∨ quotientOverflows w (n.tdiv d.toInt) = true) (sound : faults = false) :
    n = n.tdiv d.toInt * d.toInt + n.tmod d.toInt ∧ |n.tmod d.toInt| < |d.toInt| ∧
      (n.tmod d.toInt = 0 ∨ (n.tmod d.toInt < 0 ↔ n < 0)) ∧ fitsSigned w (n.tdiv d.toInt) = true := by
  obtain ⟨nonzero, fits⟩ := not_or.mp (mt h.mpr (Bool.eq_false_iff.mp sound))
  have pos : 0 < d.toInt.natAbs :=
    Int.natAbs_pos.mpr fun zero => nonzero (BitVec.eq_of_toInt_eq (zero.trans BitVec.toInt_zero.symm))
  refine ⟨(Int.tdiv_mul_add_tmod ..).symm, ?_, ?_, by simpa [quotientOverflows_eq] using fits⟩
  · rw [Int.abs_eq_natAbs, Int.abs_eq_natAbs, Int.natAbs_tmod, Int.ofNat_lt]
    exact Nat.mod_lt _ pos
  · have sign := Int.sign_tmod n d.toInt
    split at sign
    · exact .inl (Int.sign_eq_zero_iff_zero.mp sign)
    · exact .inr (by rw [← Int.sign_eq_neg_one_iff_neg, sign, Int.sign_eq_neg_one_iff_neg])

/-! ### The divides (R362 to R364) -/

/-- The state that DIV leaves when it does not fault. -/
def State.divided (s : State) : Operand → State
  | .b _ v => s.setDiv8 (BitVec.ofNat 8 ((s.reg .ax).toNat / v.toNat)) (BitVec.ofNat 8 ((s.reg .ax).toNat % v.toNat))
  | .w _ v => s.setDiv16 (BitVec.ofNat 16 (s.dxax.toNat / v.toNat)) (BitVec.ofNat 16 (s.dxax.toNat % v.toNat))

/-- The state that IDIV leaves when it does not fault. -/
def State.signedDivided (s : State) : Operand → State
  | .b _ v => s.setDiv8 (BitVec.ofInt 8 ((s.reg .ax).toInt.tdiv v.toInt)) (BitVec.ofInt 8 ((s.reg .ax).toInt.tmod v.toInt))
  | .w _ v => s.setDiv16 (BitVec.ofInt 16 (s.dxax.toInt.tdiv v.toInt)) (BitVec.ofInt 16 (s.dxax.toInt.tmod v.toInt))

/-- Two tests with one outcome are one test. -/
theorem ite_faults {α : Type} {faults : Bool} {zero large : Prop} [Decidable zero] [Decidable large]
    (h : faults = true ↔ zero ∨ large) (error done : α) :
    (if zero then error else if large then error else done) = if faults then error else done := by
  simp only [h, ite_or]

theorem exec_div (x : RmForm) (s : State) :
    exec (.div x) s = if (x.operand s).divFaults s then .next (s.intCall 0) else .next (s.divided (x.operand s)) :=
  match x with
  | .b _ => ite_faults (Operand.divFaults_b ..) ..
  | .w _ => ite_faults (Operand.divFaults_w ..) ..

theorem exec_idiv (x : RmForm) (s : State) :
    exec (.idiv x) s
      = if (x.operand s).idivFaults s then .next (s.intCall 0) else .next (s.signedDivided (x.operand s)) :=
  match x with
  | .b _ => ite_faults (Operand.idivFaults_b ..) ..
  | .w _ => ite_faults (Operand.idivFaults_w ..) ..

/-- Settles O39: a divide that does not fault computes the library's quotient and remainder, unsigned or toward zero (D12). -/
theorem divideResults : Obligations.DivideResults := by
  refine fun x s => ⟨fun sound => ?_, fun sound => ?_⟩
  · have runs := (exec_div x s).trans (if_neg (Bool.eq_false_iff.mp sound))
    cases x with
    | b rm =>
      obtain ⟨whole, less, fits⟩ := unsigned_quotient (Operand.divFaults_b ..) sound
      exact ⟨_, _, whole, less, fits, runs⟩
    | w rm =>
      obtain ⟨whole, less, fits⟩ := unsigned_quotient (Operand.divFaults_w ..) sound
      exact ⟨_, _, (toNat_append_eq ..).symm.trans whole, less, fits, runs⟩
  · have runs := (exec_idiv x s).trans (if_neg (Bool.eq_false_iff.mp sound))
    cases x with
    | b rm =>
      obtain ⟨whole, less, sign, fits⟩ := signed_quotient (Operand.idivFaults_b ..) sound
      exact ⟨_, _, whole, less, sign, fits, runs⟩
    | w rm =>
      obtain ⟨whole, less, sign, fits⟩ := signed_quotient (Operand.idivFaults_w ..) sound
      rw [State.dxax, toInt_append_neg_iff (by decide)] at sign
      exact ⟨_, _, whole, less, sign, fits, runs⟩

/-- Settles O40: both tests of a divide are the one fault of its operand, and AAM tests its base first (D12, D34). -/
theorem divideErrors : Obligations.DivideErrors :=
  ⟨fun x s faults => (exec_div x s).trans (if_pos faults), fun x s faults => (exec_idiv x s).trans (if_pos faults),
    fun _ => rfl⟩

end Sys2Proof.Machine
end

section
/-! PROOFS of the statements about the decimal and ASCII adjusts (spec/46_bcd.md R380 to R385): the results of DAA and DAS in
numbers, each instruction from them, then the digit tests after a sum and a difference of packed digits. -/

namespace Sys2Proof.Machine

/-! ### The digit tests and the results in numbers -/

theorem and_0x0F_eq (v : Byte) : v &&& 0x0F = BitVec.ofNat 8 (v.toNat % 16) := by
  apply BitVec.eq_of_toNat_eq
  have low : v.toNat &&& 0x0F = v.toNat % 16 := Nat.and_two_pow_sub_one_eq_mod _ 4
  have small : v.toNat % 16 < 2 ^ 8 := by omega
  rw [BitVec.toNat_and, BitVec.toNat_ofNat, Nat.mod_eq_of_lt small]
  exact low

theorem lowDigitAdjust_eq (al : Byte) (af : Bool) : lowDigitAdjust al af = (decide (9 < al.toNat % 16) || af) := by
  have small : al.toNat % 16 < 2 ^ 8 := by omega
  rw [lowDigitAdjust, and_0x0F_eq, BitVec.toNat_ofNat, Nat.mod_eq_of_lt small]

theorem daaResult_eq (al : Byte) (af cf : Bool) :
    daaResult al af cf = BitVec.ofNat 8
      (al.toNat + (if lowDigitAdjust al af then 6 else 0) + (if highDigitAdjust al cf then 0x60 else 0)) := by
  simp only [daaResult, BitVec.ofNat_add, BitVec.ofNat_toNat, BitVec.setWidth_eq]
  cases lowDigitAdjust al af <;> cases highDigitAdjust al cf <;> simp

theorem dasResult_eq (al : Byte) (af cf : Bool) :
    dasResult al af cf = BitVec.ofInt 8
      ((al.toNat : Int) - (if lowDigitAdjust al af then 6 else 0) - (if highDigitAdjust al cf then 0x60 else 0)) := by
  simp only [dasResult, ofInt_sub, BitVec.ofInt_natCast, BitVec.ofNat_toNat, BitVec.setWidth_eq]
  cases lowDigitAdjust al af <;> cases highDigitAdjust al cf <;> simp

/-- The old carry alone already adjusts the high digit, so the borrow of the low digit's adjust is the only other source. -/
theorem dasCarry_eq (al : Byte) (af cf : Bool) :
    dasCarry al af cf = (highDigitAdjust al cf || (lowDigitAdjust al af && decide (al.toNat < 6))) := by
  cases cf <;> simp [dasCarry, highDigitAdjust]

/-! ### The flags of each kind of adjust -/

theorem State.decimalAdjusted_eq (s : State) (al : Byte) (af cf : Bool) :
    s.decimalAdjusted al af cf = (s.flagged (s.decimalFlags al af cf) 1).setReg8 .al al := by
  rw [State.decimalFlags, resultFlags_eq]; rfl

theorem State.asciiAdjusted_eq (s : State) (ah al : Byte) (adjusted : Bool) :
    s.asciiAdjusted ah al adjusted
      = (s.flagged (s.asciiFlags adjusted) 4).setReg .ax (ah ++ BitVec.ofNat 8 (al.toNat % 16)) := by
  rw [← and_0x0F_eq]; rfl

theorem State.baseAdjusted_eq (s : State) (ah al : Byte) :
    s.baseAdjusted ah al = (s.flagged (s.baseFlags al) 3).setReg .ax (ah ++ al) := by
  rw [State.baseFlags, resultFlags_eq]; rfl

/-! ### The instructions (R380 to R385) -/

/-- AAA and AAS choose between two results by one test. -/
theorem State.asciiAdjust_eq (s : State) (adjust : Bool) (ah ah' al al' : Byte) :
    (if adjust then .next (s.asciiAdjusted ah al true) else .next (s.asciiAdjusted ah' al' false)
        : Host.Outcome State Fault Refusal)
      = .next ((s.flagged (s.asciiFlags adjust) 4).setReg .ax
          (if adjust then ah ++ BitVec.ofNat 8 (al.toNat % 16) else ah' ++ BitVec.ofNat 8 (al'.toNat % 16))) := by
  cases adjust <;> simp only [State.asciiAdjusted_eq, if_true, Bool.false_eq_true, if_false]

theorem exec_daa (s : State) :
    exec .daa s = .next (s.decimalAdjusted (daaResult (s.reg8 .al) s.flags.af s.flags.cf)
      (lowDigitAdjust (s.reg8 .al) s.flags.af) (highDigitAdjust (s.reg8 .al) s.flags.cf)) := rfl

theorem exec_das (s : State) :
    exec .das s = .next (s.decimalAdjusted (dasResult (s.reg8 .al) s.flags.af s.flags.cf)
      (lowDigitAdjust (s.reg8 .al) s.flags.af) (dasCarry (s.reg8 .al) s.flags.af s.flags.cf)) := rfl

theorem exec_aaa (s : State) :
    exec .aaa s = if lowDigitAdjust (s.reg8 .al) s.flags.af
      then .next (s.asciiAdjusted (s.reg8 .ah + 1) (s.reg8 .al + 6) true)
      else .next (s.asciiAdjusted (s.reg8 .ah) (s.reg8 .al) false) := rfl

theorem exec_aas (s : State) :
    exec .aas s = if lowDigitAdjust (s.reg8 .al) s.flags.af
      then .next (s.asciiAdjusted (s.reg8 .ah - 1) (s.reg8 .al - 6) true)
      else .next (s.asciiAdjusted (s.reg8 .ah) (s.reg8 .al) false) := rfl

theorem exec_aam {base : Byte} (nonzero : base ≠ 0) (s : State) :
    exec (.aam base) s = .next (s.baseAdjusted (s.reg8 .al / base) (s.reg8 .al % base)) := if_neg nonzero

theorem exec_aad (base : Byte) (s : State) :
    exec (.aad base) s = .next (s.baseAdjusted 0 (s.reg8 .al + s.reg8 .ah * base)) := rfl

/-- The digit and the carry of AAA, as numbers. -/
theorem asciiAdjust_add (ah al : Byte) :
    (ah + 1) ++ BitVec.ofNat 8 ((al + 6).toNat % 16)
      = BitVec.ofNat 8 (ah.toNat + 1) ++ BitVec.ofNat 8 ((al.toNat + 6) % 16) := by
  have digit : (al + 6).toNat % 16 = (al.toNat + 6) % 16 := Nat.mod_mod_of_dvd _ (by decide : 16 ∣ 2 ^ 8)
  rw [digit, BitVec.add_def]
  rfl

/-- The digit and the borrow of AAS, as numbers. -/
theorem asciiAdjust_sub (ah al : Byte) :
    (ah - 1) ++ BitVec.ofNat 8 ((al - 6).toNat % 16)
      = BitVec.ofNat 8 (ah.toNat + 255) ++ BitVec.ofNat 8 ((al.toNat + 10) % 16) := by
  have digit : (al - 6).toNat % 16 = (250 + al.toNat) % 16 := Nat.mod_mod_of_dvd _ (by decide : 16 ∣ 2 ^ 8)
  have same : (250 + al.toNat) % 16 = (al.toNat + 10) % 16 := by omega
  rw [digit, same, Nat.add_comm ah.toNat, BitVec.sub_def]
  rfl

/-- Settles O41: the digit tests and the results in numbers; quotient, remainder and sum are the library's (D33, D34). -/
theorem adjustResults : Obligations.AdjustResults := by
  refine ⟨⟨rfl, rfl, rfl, rfl, fun _ => ⟨rfl, rfl⟩⟩, fun s => ⟨?_, ?_⟩, fun s => ⟨?_, ?_⟩,
    fun s base => ⟨rfl, fun nonzero => ?_, ?_⟩⟩
  · rw [exec_daa, State.decimalAdjusted_eq, daaResult_eq, lowDigitAdjust_eq]
    rfl
  · rw [exec_das, State.decimalAdjusted_eq, dasResult_eq, dasCarry_eq, lowDigitAdjust_eq]
    rfl
  · rw [exec_aaa, State.asciiAdjust_eq, asciiAdjust_add, lowDigitAdjust_eq]
  · rw [exec_aas, State.asciiAdjust_eq, asciiAdjust_sub, lowDigitAdjust_eq]
  · rw [exec_aam nonzero, State.baseAdjusted_eq, BitVec.udiv_def, BitVec.umod_def]
  · rw [exec_aad, State.baseAdjusted_eq, BitVec.ofNat_add, BitVec.ofNat_mul]
    simp only [BitVec.ofNat_toNat, BitVec.setWidth_eq]
    rfl

/-! ### Packed decimal digits -/

/-- Two decimal digits in a byte. -/
def packed (tens units : Nat) : Byte := BitVec.ofNat 8 (16 * tens + units)

theorem toNat_packed {tens units : Nat} (ht : tens < 10) (hu : units < 10) :
    (packed tens units).toNat = 16 * tens + units := Nat.mod_eq_of_lt (by omega)

theorem State.decimalAdjusted_al (s : State) (al : Byte) (af cf : Bool) :
    (s.decimalAdjusted al af cf).reg8 .al = al := by
  rw [State.decimalAdjusted, State.reg8_setReg8, if_pos rfl]

theorem State.decimalAdjusted_cf (s : State) (al : Byte) (af cf : Bool) :
    (s.decimalAdjusted al af cf).flags.cf = cf := rfl

section
variable {x1 x0 y1 y0 : Nat} (hx1 : x1 < 10) (hx0 : x0 < 10) (hy1 : y1 < 10) (hy0 : y0 < 10) (f : Flags)
include hx1 hx0 hy1 hy0

/-- After a sum, the digits to adjust are those that carry in decimal. -/
theorem digitAdjust_sum :
    lowDigitAdjust (packed x1 x0 + packed y1 y0) (sumFlags f (packed x1 x0) (packed y1 y0) 0).af
        = decide (10 ≤ x0 + y0) ∧
      highDigitAdjust (packed x1 x0 + packed y1 y0) (sumFlags f (packed x1 x0) (packed y1 y0) 0).cf
        = decide (100 ≤ 10 * x1 + x0 + (10 * y1 + y0)) := by
  rw [lowDigitAdjust_eq, highDigitAdjust, sumFlags, BitVec.toNat_add, toNat_packed hx1 hx0, toNat_packed hy1 hy0,
    ← Bool.decide_or, ← Bool.decide_or, decide_eq_decide, decide_eq_decide]
  omega

theorem daaResult_sum :
    let g := sumFlags f (packed x1 x0) (packed y1 y0) 0
    let sum := 10 * x1 + x0 + (10 * y1 + y0)
    daaResult (packed x1 x0 + packed y1 y0) g.af g.cf = packed (sum / 10 % 10) (sum % 10) := by
  intro g sum
  obtain ⟨low, high⟩ := digitAdjust_sum hx1 hx0 hy1 hy0 f
  apply BitVec.eq_of_toNat_eq
  rw [daaResult_eq, low, high, BitVec.toNat_ofNat, BitVec.toNat_add, toNat_packed hx1 hx0, toNat_packed hy1 hy0,
    toNat_packed (by omega) (by omega)]
  simp only [decide_eq_true_eq]
  split <;> split <;> omega

/-- After a difference, the digits to adjust are those that borrow in decimal. -/
theorem digitAdjust_difference :
    lowDigitAdjust (packed x1 x0 - packed y1 y0) (differenceFlags f (packed x1 x0) (packed y1 y0) 0).af
        = decide (x0 < y0) ∧
      highDigitAdjust (packed x1 x0 - packed y1 y0) (differenceFlags f (packed x1 x0) (packed y1 y0) 0).cf
        = decide (10 * x1 + x0 < 10 * y1 + y0) := by
  rw [lowDigitAdjust_eq, highDigitAdjust, differenceFlags, BitVec.toNat_sub, toNat_packed hx1 hx0,
    toNat_packed hy1 hy0, ← Bool.decide_or, ← Bool.decide_or, decide_eq_decide, decide_eq_decide]
  omega

/-- A decimal digit that borrows gains 10, where a hexadecimal one gains 16: the 6 that DAS takes off. -/
theorem digits_difference :
    let diff := 10 * x1 + x0 + 100 - (10 * y1 + y0)
    ((diff % 10 : Nat) : Int) = x0 - y0 + (if x0 < y0 then 10 else 0) ∧
      ((diff / 10 % 10 : Nat) : Int)
        = x1 - y1 - (if x0 < y0 then 1 else 0) + (if 10 * x1 + x0 < 10 * y1 + y0 then 10 else 0) := by
  intro diff
  constructor
  · split <;> omega
  · split <;> split <;> omega

theorem dasResult_difference :
    let g := differenceFlags f (packed x1 x0) (packed y1 y0) 0
    let diff := 10 * x1 + x0 + 100 - (10 * y1 + y0)
    dasResult (packed x1 x0 - packed y1 y0) g.af g.cf = packed (diff / 10 % 10) (diff % 10) := by
  intro g diff
  obtain ⟨low, high⟩ := digitAdjust_difference hx1 hx0 hy1 hy0 f
  apply BitVec.eq_of_toNat_eq
  rw [dasResult_eq, low, high, BitVec.toNat_ofInt, BitVec.toNat_sub, toNat_packed hx1 hx0, toNat_packed hy1 hy0,
    toNat_packed (by omega) (by omega)]
  apply Int.ofNat_inj.mp
  obtain ⟨units, tens⟩ := digits_difference hx1 hx0 hy1 hy0
  rw [Int.toNat_of_nonneg (Int.emod_nonneg _ (by decide)), Nat.cast_add, Nat.cast_mul, units, tens]
  simp only [decide_eq_true_eq]
  split <;> split <;> omega

/-- A low digit that borrows from the high digit leaves more than 6, so its adjust borrows nothing further. -/
theorem dasCarry_difference :
    let g := differenceFlags f (packed x1 x0) (packed y1 y0) 0
    dasCarry (packed x1 x0 - packed y1 y0) g.af g.cf = decide (10 * x1 + x0 + 100 - (10 * y1 + y0) < 100) := by
  intro g
  obtain ⟨low, high⟩ := digitAdjust_difference hx1 hx0 hy1 hy0 f
  rw [dasCarry_eq, low, high, BitVec.toNat_sub, toNat_packed hx1 hx0, toNat_packed hy1 hy0, ← Bool.decide_and,
    ← Bool.decide_or, decide_eq_decide]
  omega

end

theorem exec_add_al (s : State) (b : Byte) :
    ∃ t, exec (.add (.accImm (.b b))) s = .next t ∧ t.reg8 .al = s.reg8 .al + b ∧
      t.flags = sumFlags s.flags (s.reg8 .al) b 0 := by
  refine ⟨_, (addAdcResults (.accImm (.b b)) s).1, ?_, State.write8_flags ..⟩
  exact (State.reg8_setReg8 ..).trans (BitVec.add_def ..).symm

theorem exec_sub_al (s : State) (b : Byte) :
    ∃ t, exec (.sub (.accImm (.b b))) s = .next t ∧ t.reg8 .al = s.reg8 .al - b ∧
      t.flags = differenceFlags s.flags (s.reg8 .al) b 0 := by
  refine ⟨_, (subSbbCmpNegResults.1 (.accImm (.b b)) s).1, ?_, State.write8_flags ..⟩
  refine (State.reg8_setReg8 ..).trans ?_
  rw [if_pos rfl, ofInt_sub, BitVec.ofInt_toInt, BitVec.ofInt_toInt]

/-- Settles O42: the flags of ADD and SUB tell DAA and DAS which digits carry or borrow in decimal. -/
theorem packedDecimalArithmetic : Obligations.PackedDecimalArithmetic := by
  intro s x1 x0 y1 y0 hx1 hx0 hy1 hy0 digits y sum diff
  change s.reg8 .al = packed x1 x0 at digits
  constructor
  · obtain ⟨t, runs, value, flags⟩ := exec_add_al s (packed y1 y0)
    rw [digits] at value flags
    refine ⟨t, _, runs, exec_daa t, ?_, ?_⟩
    · rw [State.decimalAdjusted_al, value, flags]
      exact daaResult_sum hx1 hx0 hy1 hy0 _
    · rw [State.decimalAdjusted_cf, value, flags]
      exact (digitAdjust_sum hx1 hx0 hy1 hy0 _).2
  · obtain ⟨t, runs, value, flags⟩ := exec_sub_al s (packed y1 y0)
    rw [digits] at value flags
    refine ⟨t, _, runs, exec_das t, ?_, ?_⟩
    · rw [State.decimalAdjusted_al, value, flags]
      exact dasResult_difference hx1 hx0 hy1 hy0 _
    · rw [State.decimalAdjusted_cf, value, flags]
      exact dasCarry_difference hx1 hx0 hy1 hy0 _

end Sys2Proof.Machine
end

section
/-! PROOFS of the statements about the flag instructions, the ports and the port map (spec/47_flags_io.md R400 to R414,
spec/61_devices.md R592, R610 to R616). -/

namespace Sys2Proof.Machine

/-! ### The flag instructions (R400 to R410) -/

/-- The low byte of the FLAGS word as the sum of its bits' places: what LAHF stores (R407). -/
theorem Flags.low8_word (f : Flags) :
    low8 f.word = BitVec.ofNat 8 (128 * f.sf.toNat + 64 * f.zf.toNat + 16 * f.af.toNat + 4 * f.pf.toNat + 2 + f.cf.toNat) := by
  apply BitVec.eq_of_toNat_eq
  rw [low8, BitVec.extractLsb'_toNat, Nat.shiftRight_zero, Flags.toNat_word, BitVec.toNat_ofNat]
  omega

/-- Settles O43: LAHF stores the low byte of the FLAGS word; the others are the statement's terms by definition. -/
theorem flagInstructions : Obligations.FlagInstructions := by
  refine ⟨⟨rfl, rfl, rfl, rfl, rfl, rfl, rfl, rfl, rfl, rfl, rfl⟩, fun s => ?_⟩
  have lahf : exec .lahf s = .next (s.setReg8 .ah (low8 s.flags.word)) := rfl
  rw [Flags.low8_word] at lahf
  exact ⟨rfl, rfl, rfl, rfl, rfl, rfl, rfl, lahf, rfl, rfl, rfl⟩

/-! ### IN and OUT (R411 to R414, R611 to R613) -/

theorem zext16_eq (b : Byte) : zext16 b = BitVec.ofNat 16 b.toNat := (BitVec.ofNat_toNat ..).symm

theorem State.inByte_of_handler {s : State} {port : Word} {h : Handler} (entry : lookupPort s.ports port = some h) :
    s.inByte port = s.handlerIn h := by
  rw [State.inByte, entry]

theorem State.outByte_of_handler {s : State} {port : Word} {h : Handler} (entry : lookupPort s.ports port = some h)
    (v : Byte) : s.outByte port v = s.handlerOut port v h := by
  rw [State.outByte, entry]

theorem State.inByte_of_none {s : State} {port : Word} (entry : lookupPort s.ports port = none) :
    s.inByte port = (0xFF, s) := by
  rw [State.inByte, entry]

theorem State.outByte_of_none {s : State} {port : Word} (entry : lookupPort s.ports port = none) (v : Byte) :
    s.outByte port v = s := by
  rw [State.outByte, entry]

/-- Settles O44: an immediate port is the byte as a number; a byte access is decided by the table's entry, and a word access
is two of them. -/
theorem portInstructions : Obligations.PortInstructions := by
  refine ⟨fun p => ⟨rfl, rfl, rfl, rfl, rfl, rfl, rfl, rfl⟩, fun s p => ?_, fun s port v none => ?_,
    fun s port v h some => ?_, fun s port v => ⟨rfl, rfl⟩⟩
  · rw [← zext16_eq]
    exact ⟨rfl, rfl, rfl, rfl, rfl, rfl, rfl, rfl⟩
  · exact ⟨State.inByte_of_none none, State.outByte_of_none none v⟩
  · exact ⟨State.inByte_of_handler some, State.outByte_of_handler some v⟩

/-! ### The port table (R592, R615, R616) -/

/-- A port above every range of a table has no handler. -/
theorem lookupPort_eq_none {l : List PortRange} {port : Word} (above : ∀ e ∈ l, e.hi < port.toNat) :
    lookupPort l port = none := by
  induction l with
  | nil => rfl
  | cons e rest ih =>
    obtain ⟨first, later⟩ := List.forall_mem_cons.mp above
    rw [lookupPort, if_neg fun inside => Nat.not_le.mpr first inside.2, ih later]

/-- The block's ports end at 8FH. -/
theorem lookupPort_blockPorts_of_le {port : Word} (high : 0x90 ≤ port.toNat) : lookupPort blockPorts port = none :=
  lookupPort_eq_none fun e mem => Nat.lt_of_lt_of_le ((by decide : ∀ e ∈ blockPorts, e.hi < 0x90) e mem) high

/-- Settles O45: the 144 lowest ports are read off the table, and no range of it covers a higher one; a redirection is the
first range. -/
theorem portMap : Obligations.PortMap := by
  refine ⟨fun port => ?_, fun s lo hi port h => rfl⟩
  by_cases low : port.toNat < 0x90
  · have named : port = BitVec.ofNat 16 port.toNat := eq_ofNat_of_toNat rfl
    generalize port.toNat = n at low named
    subst named
    revert n
    decide
  · have none : lookupPort State.reset.ports port = none := lookupPort_blockPorts_of_le (Nat.le_of_not_lt low)
    rw [none]
    obtain ⟨m, above⟩ := Nat.exists_eq_add_of_le' (Nat.le_of_not_lt low)
    rw [above]
    rfl

end Sys2Proof.Machine
end

section
/-! PROOFS of the statements about interrupts (spec/48_int_misc.md R430 to R445, spec/60_exceptions.md R510): the words of the
stack by their distance from the top, and what pushes make of them. -/

namespace Sys2Proof.Machine

/-! ### The words of the stack (R71) -/

/-- The k-th word of the stack, the top one being number 0. -/
def State.stackWord (s : State) (k : Nat) : Word :=
  s.readWord (phys (s.seg .ss) (s.reg .sp + BitVec.ofNat 16 (2 * k)))

theorem State.top_eq_stackWord (s : State) : s.top = s.stackWord 0 := by
  rw [State.stackWord, BitVec.add_zero]; rfl

theorem State.stackWord_congr {s t : State} (mem : t.mem = s.mem) (ss : t.seg .ss = s.seg .ss)
    (sp : t.reg .sp = s.reg .sp) (k : Nat) : t.stackWord k = s.stackWord k := by
  rw [State.stackWord, ss, sp]
  exact congrArg₂ wordOf (State.readByte_congr mem _) (State.readByte_congr mem _)

/-- A word of the stack at or above SP does not meet the word below SP, also where SP wraps around (R68). -/
theorem notMem_wordBelow_add (sg off : Word) {d : Nat} (near : d < 0x7FFF) :
    phys sg (off + BitVec.ofNat 16 (2 * d)) ∉ wordAddrs (phys sg (off - 2)) ∧
      phys sg (off + BitVec.ofNat 16 (2 * d)) + 1 ∉ wordAddrs (phys sg (off - 2)) := by
  simp only [wordAddrs, phys, List.mem_cons, List.not_mem_nil, or_false, not_or]
  bv_omega

section
variable (s : State) (v : Word)

/-- A push moves the words of the stack one place down. -/
theorem State.stackWord_push16_succ {k : Nat} (near : k < 0x7FFF) : (s.push16 v).stackWord (k + 1) = s.stackWord k := by
  have sp : (s.push16 v).reg .sp + BitVec.ofNat 16 (2 * (k + 1)) = s.reg .sp + BitVec.ofNat 16 (2 * k) := by
    rw [State.reg_push16, if_pos rfl]
    bv_omega
  obtain ⟨low, high⟩ := notMem_wordBelow_add (s.seg .ss) (s.reg .sp) near
  have below : wordAddrs (phys (s.seg .ss) (s.reg .sp - 2)) = s.stackAddrs 1 := (List.append_nil _).symm
  rw [below] at low high
  rw [State.stackWord, sp, State.seg_push16]
  exact congrArg₂ wordOf (s.readByte_push16 v high) (s.readByte_push16 v low)

/-- The word pushed is on top. -/
theorem State.stackWord_push16_zero (hw : s.mem.wf = true) (h : s.writable (s.stackAddrs 1)) :
    (s.push16 v).stackWord 0 = v := by
  rw [← State.top_eq_stackWord, State.top_push16 hw h]

end

/-! ### The entry of an interrupt and the return from it (R510, R433) -/

section
variable (s : State) (n : Byte)

/-- The three pushes of `IntCall`. -/
def State.pushFrame : State := ((s.push16 s.flags.word).push16 (s.seg .cs)).push16 s.ip

theorem State.intCall_mem : (s.intCall n).mem = s.pushFrame.mem := by simp [State.intCall, State.pushFrame]
theorem State.intCall_regs : (s.intCall n).regs = s.pushFrame.regs := by simp [State.intCall, State.pushFrame]
theorem State.intCall_flags : (s.intCall n).flags = s.flags.masked := by simp [State.intCall]
theorem State.intCall_ip : (s.intCall n).ip = s.pushFrame.readWord (vectorAddr n) := rfl

theorem State.intCall_cs : (s.intCall n).seg .cs = s.pushFrame.readWord (vectorAddr n + 2) := by
  rw [State.intCall, State.loadVector, State.seg_setSeg, if_pos rfl]; rfl

/-- The words that `IntCall` leaves on the stack. -/
theorem State.stackWord_intCall (hw : s.mem.wf = true) (h : s.writable (s.stackAddrs 3)) :
    (s.intCall n).stackWord 0 = s.ip ∧ (s.intCall n).stackWord 1 = s.seg .cs ∧
      (s.intCall n).stackWord 2 = s.flags.word := by
  let p := s.push16 s.flags.word
  let q := p.push16 (s.seg .cs)
  obtain ⟨first, h⟩ := (s.writable_stackAddrs_succ s.flags.word 2).mp h
  obtain ⟨second, third⟩ := (p.writable_stackAddrs_succ (s.seg .cs) 1).mp h
  have ss : (s.intCall n).seg .ss = s.pushFrame.seg .ss := by
    rw [s.seg_intCall_ne n (by decide), State.pushFrame, State.seg_push16, State.seg_push16, State.seg_push16]
  have frame := State.stackWord_congr (s.intCall_mem n) ss (State.reg_congr (s.intCall_regs n) .sp)
  have hp : p.mem.wf = true := State.wf_push16 hw _
  refine ⟨?_, ?_, ?_⟩
  · exact (frame 0).trans (q.stackWord_push16_zero _ (State.wf_push16 hp _) third)
  · exact (frame 1).trans ((q.stackWord_push16_succ _ (by decide)).trans (p.stackWord_push16_zero _ hp second))
  · exact (frame 2).trans ((q.stackWord_push16_succ _ (by decide)).trans
      ((p.stackWord_push16_succ _ (by decide)).trans (s.stackWord_push16_zero _ hw first)))

/-- The k-th word from the top, by its distance from SP before the pushes. -/
theorem State.stackWord_intCall_eq (k : Nat) :
    (s.intCall n).stackWord k = (s.intCall n).readWord (phys (s.seg .ss) (s.reg .sp - 6 + BitVec.ofNat 16 (2 * k))) := by
  rw [State.stackWord, State.reg_intCall, if_pos rfl, State.seg_intCall_ne s n (by decide)]

end

/-- Settles O46: registers, segments and flags by their laws; the frame's words are those on top of the stack. -/
theorem interruptEntry : Obligations.InterruptEntry := by
  intro s n t u
  have lowered : t.reg .sp = s.reg .sp - 6 := (s.reg_intCall n .sp).trans (if_pos rfl)
  have others (r : Reg16) (other : r ≠ .sp) : t.reg r = s.reg r := (s.reg_intCall n r).trans (if_neg other)
  have entry : vectorAddr n + 2 = BitVec.ofNat 20 (4 * n.toNat + 2) := (BitVec.ofNat_add ..).symm
  have segment : t.seg .cs = u.readWord (BitVec.ofNat 20 (4 * n.toNat + 2)) := entry ▸ s.intCall_cs n
  refine ⟨s.intCall_mem n, lowered, others, fun r other => s.seg_intCall_ne n other, s.intCall_flags n, s.intCall_ip n,
    segment, fun hw h => ?_⟩
  obtain ⟨ip, cs, flags⟩ := s.stackWord_intCall n hw h
  rw [s.stackWord_intCall_eq n] at ip cs flags
  have four : s.reg .sp - 6 + BitVec.ofNat 16 (2 * 1) = s.reg .sp - 4 := by bv_omega
  have two : s.reg .sp - 6 + BitVec.ofNat 16 (2 * 2) = s.reg .sp - 2 := by bv_omega
  rw [BitVec.add_zero] at ip
  rw [four] at cs
  rw [two] at flags
  exact ⟨flags, cs, ip⟩

/-- IRET by the words of the stack: IP, CS and FLAGS, and SP above them. -/
theorem exec_iret (s : State) :
    exec .iret s = .next ((((s.setReg .sp (s.reg .sp + 6)).setIp (s.stackWord 0)).setSeg .cs (s.stackWord 1)).setFlags
      (Flags.ofWord (s.stackWord 2))) := by
  have four : s.reg .sp + 2 + 2 = s.reg .sp + 4 := by rw [BitVec.add_assoc]; rfl
  have six : s.reg .sp + 4 + 2 = s.reg .sp + 6 := by rw [BitVec.add_assoc]; rfl
  have popped : s.popped.popped.popped = s.setReg .sp (s.reg .sp + 6) := by rw [← six, ← four]; rfl
  have flags : s.popped.popped.top = s.stackWord 2 := by rw [State.popped_popped]; rfl
  rw [← popped, ← flags, ← State.top_eq_stackWord]
  rfl

theorem State.illegal_eq (s : State) (p : Config.IllegalPolicy) :
    s.illegal p = match p with | .raise6 => s.intCall 6 | .nop => s := by
  cases p <;> rfl

/-- Settles O47: INTO is a choice of states, IRET is known by the words of the stack, an illegal encoding by its policy; the
others are the statement's terms by definition. -/
theorem interruptHaltAndPrefixResults : Obligations.InterruptHaltAndPrefixResults := by
  refine ⟨fun s n op reg rm => ?_, fun s sel reg rm => ⟨rfl, rfl, rfl, rfl, rfl, rfl, rfl, rfl, rfl, rfl⟩⟩
  have illegal := congrArg Host.Outcome.next (β := Host.Outcome State Fault Refusal)
    (s.illegal_eq Config.illegalOpcodePolicy)
  have iret := exec_iret s
  rw [State.stackWord, BitVec.add_zero] at iret
  exact ⟨rfl, rfl, (apply_ite Host.Outcome.next _ _ _).symm, iret, illegal, illegal⟩

/-- Settles O48: the words of the stack are IP, CS and FLAGS, and SP is raised by what the pushes lowered it. -/
theorem interruptReturnUndoesEntry : Obligations.InterruptReturnUndoesEntry := by
  intro s n hw h
  obtain ⟨ip, cs, flags⟩ := s.stackWord_intCall n hw h
  let u := s.intCall n
  have raised (r : Reg16) : (u.setReg .sp (u.reg .sp + 6)).reg r = s.reg r := by
    simp only [u, State.reg_setReg, State.reg_intCall, if_true, BitVec.sub_add_cancel]
    split
    · next sp => rw [sp]
    · rfl
  have returned (r : SReg) : (u.setSeg .cs (u.stackWord 1)).seg r = s.seg r := by
    rw [State.seg_setSeg, cs]
    split
    · next same => rw [same]
    · next other => exact s.seg_intCall_ne n other
  exact ⟨_, exec_iret u, ip, Regs.ext_get raised, SegRegs.ext_get returned,
    (congrArg Flags.ofWord flags).trans s.flags.ofWord_word⟩

end Sys2Proof.Machine
end

section
/-! PROOFS of the statements about the 80186 additions (spec/49_ext186.md R461 to R463, R469, R470): pushes of a list of words,
and the copies of ENTER, by the words of the stack. -/

namespace Sys2Proof.Machine

/-! ### Pushes of a list of words -/

/-- The words of a list are pushed one after the other. -/
def State.pushAll (s : State) (l : List Word) : State := l.foldl State.push16 s

theorem State.pushAll_cons (s : State) (v : Word) (l : List Word) : s.pushAll (v :: l) = (s.push16 v).pushAll l := rfl

section
variable {s : State} {l : List Word}

/-- Pushes move the words of the stack down by as many places. -/
theorem State.stackWord_pushAll_add {k : Nat} (near : l.length + k < 0x8000) :
    (s.pushAll l).stackWord (l.length + k) = s.stackWord k := by
  induction l generalizing s k with
  | nil => rw [List.length_nil, Nat.zero_add]; rfl
  | cons v l ih =>
    rw [List.length_cons] at near
    rw [List.length_cons, State.pushAll_cons, Nat.add_right_comm, Nat.add_assoc, ih (by omega),
      State.stackWord_push16_succ _ _ (by omega)]

/-- The words pushed are read back, the last one first. -/
theorem State.stackWord_pushAll (hw : s.mem.wf = true) (h : s.writable (s.stackAddrs l.length))
    (near : l.length ≤ 0x8000) {k : Nat} {v : Word} (pushed : l.reverse[k]? = some v) : (s.pushAll l).stackWord k = v := by
  induction l generalizing s with
  | nil => simp at pushed
  | cons w l ih =>
    rw [List.length_cons] at h near
    obtain ⟨first, later⟩ := (s.writable_stackAddrs_succ w l.length).mp h
    rw [List.reverse_cons, List.getElem?_append] at pushed
    split at pushed
    · exact ih (State.wf_push16 hw w) later (by omega) pushed
    · next deep =>
      rw [List.length_reverse] at deep pushed
      obtain ⟨single, rfl⟩ := List.getElem?_eq_some_iff.mp pushed
      obtain rfl : k = l.length := by
        rw [List.length_singleton] at single
        omega
      simp only [Nat.sub_self, List.getElem_cons_zero]
      have moved := State.stackWord_pushAll_add (s := s.push16 w) (l := l) (k := 0) (by omega)
      exact moved.trans (s.stackWord_push16_zero w hw first)

theorem State.sp_pushAll : (s.pushAll l).reg .sp = s.reg .sp - BitVec.ofNat 16 (2 * l.length) := by
  induction l generalizing s with
  | nil => exact (BitVec.sub_zero _).symm
  | cons v l ih =>
    rw [State.pushAll_cons, ih, State.reg_push16, if_pos rfl, List.length_cons]
    bv_omega

end

/-! ### PUSHA, POPA, BOUND and LEAVE (R461 to R463, R470) -/

section
variable (s : State) (g : Regs)

theorem State.popInto_setRegs (r : Reg16) : (s.setRegs g).popInto r
    = s.setRegs ((g.set .sp (g.get .sp + 2)).set r (s.readWord (phys (s.seg .ss) (g.get .sp)))) := rfl

theorem State.popped_setRegs : (s.setRegs g).popped = s.setRegs (g.set .sp (g.get .sp + 2)) := rfl

/-- POPA reads eight words of the stack and skips that of SP. -/
theorem exec_popa :
    exec .popa s = .next (s.setRegs ⟨s.stackWord 7, s.stackWord 6, s.stackWord 5, s.stackWord 4, s.reg .sp + 16,
      s.stackWord 2, s.stackWord 1, s.stackWord 0⟩) := by
  have pops : exec .popa (s.setRegs s.regs) = .next (s.setRegs ⟨s.stackWord 7, s.stackWord 6, s.stackWord 5,
      s.stackWord 4, s.reg .sp + 16, s.stackWord 2, s.stackWord 1, s.stackWord 0⟩) := by
    simp only [exec, execPopa, State.popInto_setRegs, State.popped_setRegs, Regs.set, Regs.get, State.stackWord, State.reg,
      BitVec.add_assoc, BitVec.reduceAdd, Nat.reduceMul, BitVec.ofNat_eq_ofNat, BitVec.add_zero]
  rwa [s.setRegs_self] at pops

end

theorem exec_leave (s : State) :
    exec .leave s = .next ((s.setReg .sp (s.reg .bp + 2)).setReg .bp (s.readWord (phys (s.seg .ss) (s.reg .bp)))) := by
  have popped : (s.setReg .sp (s.reg .bp)).popped = s.setReg .sp (s.reg .bp + 2) := by
    rw [State.popped, State.reg_setReg, if_pos rfl, State.setReg_setReg]
  rw [← popped]
  rfl

theorem execBound_eq (r : Reg16) (m : MemOp) (s : State) :
    execBound r m s = if (s.farLow m).toInt ≤ (s.reg r).toInt ∧ (s.reg r).toInt ≤ (s.farHigh m).toInt then .next s
      else .next (s.intCall 5) := by
  simp only [execBound, ← Int.not_le, ← not_and_or, ite_not]

/-! ### ENTER (R469) -/

/-- The level counts modulo 32. -/
theorem toNat_and_0x1F (level : Byte) : (level &&& 0x1F).toNat = level.toNat % 32 := by
  rw [BitVec.toNat_and]
  exact Nat.and_two_pow_sub_one_eq_mod level.toNat 5

/-- A turn of the copy loop lowers SP and BP by a word. -/
theorem State.copyFrame_eq (s : State) :
    s.copyFrame = (s.setReg .bp (s.reg .bp - 2)).push16 (s.readWord (phys (s.seg .ss) (s.reg .bp - 2))) := by
  have bp : (s.setReg .bp (s.reg .bp - 2)).reg .bp = s.reg .bp - 2 := (s.reg_setReg ..).trans (if_pos rfl)
  rw [State.copyFrame, bp]
  rfl

theorem State.sp_copyFrames (s : State) (n : Nat) :
    (s.copyFrames n).reg .sp = s.reg .sp - BitVec.ofNat 16 (2 * n) := by
  induction n generalizing s with
  | zero => exact (BitVec.sub_zero _).symm
  | succ n ih =>
    have sp : s.copyFrame.reg .sp = s.reg .sp - 2 := by
      rw [State.copyFrame_eq, State.reg_push16, if_pos rfl, State.reg_setReg_ne _ _ (by decide)]
    rw [State.copyFrames, ih, sp]
    bv_omega

/-- The copies move the words of the stack down by as many places. -/
theorem State.stackWord_copyFrames_add (s : State) {n k : Nat} (near : n + k < 0x8000) :
    (s.copyFrames n).stackWord (n + k) = s.stackWord k := by
  induction n generalizing s k with
  | zero => rw [Nat.zero_add]; rfl
  | succ n ih =>
    rw [State.copyFrames, Nat.add_right_comm, Nat.add_assoc, ih _ (by omega), State.copyFrame_eq,
      State.stackWord_push16_succ _ _ (by omega)]
    exact State.stackWord_congr rfl rfl (s.reg_setReg_ne _ (by decide)) k

section
variable (size : Word) {level : Byte} (s : State)

/-- ENTER without nested frames: BP is pushed and set, and SP makes room for the locals. -/
theorem exec_enter_zero (flat : level.toNat % 32 = 0) :
    exec (.enter size level) s
      = .next (((s.push16 (s.reg .bp)).setReg .bp (s.reg .sp - 2)).setReg .sp (s.reg .sp - 2 - size)) := by
  have frame : (s.push16 (s.reg .bp)).reg .sp = s.reg .sp - 2 := by rw [State.reg_push16, if_pos rfl]
  have sp := State.reg_setReg_ne (s.push16 (s.reg .bp)) (r := .bp) (q := .sp) (s.reg .sp - 2) (by decide)
  simp only [exec, execEnter, toNat_and_0x1F, flat, if_true, frame, sp]

/-- ENTER with n + 1 nested frames: n frame pointers are copied, and the new one is pushed after them. -/
theorem exec_enter_succ {n : Nat} (nested : level.toNat % 32 = n + 1) :
    exec (.enter size level) s
      = .next (((((s.push16 (s.reg .bp)).copyFrames n).push16 (s.reg .sp - 2)).setReg .bp (s.reg .sp - 2)).setReg .sp
          (s.reg .sp - 2 - BitVec.ofNat 16 (2 * (n + 1)) - size)) := by
  have frame : (s.push16 (s.reg .bp)).reg .sp = s.reg .sp - 2 := by rw [State.reg_push16, if_pos rfl]
  have lowered : (((s.push16 (s.reg .bp)).copyFrames n).push16 (s.reg .sp - 2)).reg .sp
      = s.reg .sp - 2 - BitVec.ofNat 16 (2 * (n + 1)) := by
    rw [State.reg_push16, if_pos rfl, State.sp_copyFrames, frame]
    bv_omega
  have sp := State.reg_setReg_ne (((s.push16 (s.reg .bp)).copyFrames n).push16 (s.reg .sp - 2)) (r := .bp) (q := .sp)
    (s.reg .sp - 2) (by decide)
  simp only [exec, execEnter, toNat_and_0x1F, nested, Nat.add_one_ne_zero, if_false, Nat.add_sub_cancel, frame, sp, lowered]

end

/-- Settles O49: POPA by the words of the stack, BOUND by the negation of its test, ENTER by the number of its nested frames. -/
theorem ext186Results : Obligations.Ext186Results := by
  refine ⟨fun s => ⟨?_, exec_popa s, fun r m => ⟨fun inside => ?_, fun outside => ?_⟩, exec_leave s⟩,
    fun s size level => ⟨exec_enter_zero size s, fun n => exec_enter_succ size s⟩,
    fun s n => ⟨rfl, by rw [State.copyFrames, State.copyFrame_eq]⟩⟩
  · simp only [exec, execPusha, List.foldl]
  · exact (execBound_eq r m s).trans (if_pos inside)
  · exact (execBound_eq r m s).trans (if_neg outside)

/-! ### A frame and its undoing (R461, R462, R469, R470) -/

/-- The eight registers in the order in which PUSHA pushes them. -/
def State.savedRegs (s : State) : List Word :=
  [s.reg .ax, s.reg .cx, s.reg .dx, s.reg .bx, s.reg .sp, s.reg .bp, s.reg .si, s.reg .di]

theorem exec_pusha (s : State) : exec .pusha s = .next (s.pushAll s.savedRegs) := by
  simp only [exec, execPusha, State.pushAll, State.savedRegs, List.foldl]

/-- POPA after PUSHA reads the registers back, SP from its count of words (R462). -/
theorem State.pushAll_savedRegs_popped {s : State} (hw : s.mem.wf = true) (h : s.writable (s.stackAddrs 8)) :
    let t := s.pushAll s.savedRegs
    Regs.mk (t.stackWord 7) (t.stackWord 6) (t.stackWord 5) (t.stackWord 4) (t.reg .sp + 16) (t.stackWord 2)
      (t.stackWord 1) (t.stackWord 0) = s.regs := by
  have word {k : Nat} {v : Word} (pushed : s.savedRegs.reverse[k]? = some v) : (s.pushAll s.savedRegs).stackWord k = v :=
    State.stackWord_pushAll (l := s.savedRegs) hw h (show 8 ≤ 0x8000 by decide) pushed
  have sp : (s.pushAll s.savedRegs).reg .sp + 16 = s.reg .sp := by
    rw [State.sp_pushAll]
    exact BitVec.sub_add_cancel _ _
  simp only [word (k := 7) rfl, word (k := 6) rfl, word (k := 5) rfl, word (k := 4) rfl, sp, word (k := 2) rfl,
    word (k := 1) rfl, word (k := 0) rfl]
  rfl

/-- ENTER leaves BP pointing to the old BP on the stack: the words it pushes after that lie below it. -/
theorem exec_enter_frame (size : Word) (level : Byte) {s : State} (hw : s.mem.wf = true)
    (h : s.writable (s.stackAddrs 1)) :
    ∃ t, exec (.enter size level) s = .next t ∧ t.reg .bp = s.reg .sp - 2 ∧
      t.readWord (phys (t.seg .ss) (t.reg .bp)) = s.reg .bp := by
  let p := s.push16 (s.reg .bp)
  have top : p.stackWord 0 = s.reg .bp := s.stackWord_push16_zero _ hw h
  have lowered : p.reg .sp = s.reg .sp - 2 := (s.reg_push16 _ .sp).trans (if_pos rfl)
  have framed {u : State} {k : Nat} (sp : u.reg .sp + BitVec.ofNat 16 (2 * k) = s.reg .sp - 2)
      (word : u.stackWord k = s.reg .bp) (v : Word) :
      let t := (u.setReg .bp (s.reg .sp - 2)).setReg .sp v
      t.reg .bp = s.reg .sp - 2 ∧ t.readWord (phys (t.seg .ss) (t.reg .bp)) = s.reg .bp := by
    have bp : ((u.setReg .bp (s.reg .sp - 2)).setReg .sp v).reg .bp = s.reg .sp - 2 := by
      rw [State.reg_setReg_ne _ _ (by decide), State.reg_setReg, if_pos rfl]
    refine ⟨bp, ?_⟩
    rw [bp, ← sp]
    exact word
  rcases nested : level.toNat % 32 with _ | n
  · exact ⟨_, exec_enter_zero size s nested, framed (k := 0) ((BitVec.add_zero _).trans lowered) top _⟩
  · have short : n < 32 := by omega
    refine ⟨_, exec_enter_succ size s nested, framed (k := n + 1) ?_ ?_ _⟩
    · rw [State.reg_push16, if_pos rfl, State.sp_copyFrames, lowered]
      bv_omega
    · rw [State.stackWord_push16_succ _ _ (by omega)]
      exact (p.stackWord_copyFrames_add (k := 0) (by omega)).trans top

theorem Flags.ext_get {f g : Flags} (e : ∀ n, f.get n = g.get n) : f = g := by
  cases f; cases g
  simp only [Flags.mk.injEq]
  exact ⟨e .cf, e .pf, e .af, e .zf, e .sf, e .tf, e .ifl, e .df, e .ofl⟩

theorem flags_of_exec {i : Instr} {s t : State} (h : exec i s = .next t) (none : (i.footprint s).flags = []) :
    t.flags = s.flags :=
  Flags.ext_get fun f => (writesWithin_of_exec h).flags f (none ▸ List.not_mem_nil)

/-- Settles O50: POPA reads back what PUSHA pushed; LEAVE finds the old BP where ENTER's frame pointer points. What neither
of a pair names in its footprint is as before. -/
theorem frameInstructionsUndo : Obligations.FrameInstructionsUndo := by
  intro s hw
  refine ⟨fun h => ?_, fun size level h => ?_⟩
  · have pushed := exec_pusha s
    have popped := exec_popa (s.pushAll s.savedRegs)
    exact ⟨_, _, pushed, popped, State.pushAll_savedRegs_popped hw h,
      (flags_of_exec popped rfl).trans (flags_of_exec pushed rfl)⟩
  · obtain ⟨t, entered, bp, saved⟩ := exec_enter_frame size level hw h
    have left := exec_leave t
    refine ⟨t, _, entered, left, Regs.ext_get fun r => ?_, (flags_of_exec left rfl).trans (flags_of_exec entered rfl)⟩
    refine (State.reg_setReg _ .bp r _).trans ?_
    rw [State.reg_setReg, saved, bp, BitVec.sub_add_cancel]
    split
    · next isBp => rw [isBp]; rfl
    · next notBp =>
      split
      · next isSp => rw [isSp]; rfl
      · next notSp => exact (writesWithin_of_exec entered).regs r (by simp [Instr.footprint, notSp, notBp])

end Sys2Proof.Machine
end

section
/-! PROOFS of the statements about the slot (spec/60_exceptions.md R500 to R506, spec/70_reset_and_hazards.md R645 to R647): its
three outcomes before an instruction, batches of slots, and the prefixes that never end. -/

namespace Sys2Proof.Machine

/-! ### A slot that executes one instruction (R500) -/

/-- Settles O10: the case without prefixes. -/
theorem stepRunsDecodedInstruction : Obligations.StepRunsDecodedInstruction := fun s i executes wf last bytes => by
  have run := prefixesThenInstruction s [] i executes (List.forall_mem_nil _) (by decide) wf last bytes
  rwa [List.length_nil, Nat.zero_add] at run

/-! ### The order of a slot (R502 to R506) -/

section
variable {s : State}

/-- A slot with the latch set vectors 1, which clears TF and so the latch (R502). -/
theorem step_of_trap (trap : s.boundary.trapLatch = true) :
    step s = .next (((s.boundary.intCall 1).setTrapLatch false).setInstrCount (s.boundary.instrCount + 1)) := by
  have taken : s.boundary.takeTrap = (s.boundary.intCall 1).setTrapLatch false := by
    simp only [State.takeTrap, trap, if_true, State.intCall_flags]
    rfl
  simp only [step, State.slot, trap, if_true, State.retire, taken, State.setTrapLatch_instrCount, State.intCall_instrCount]

/-- Without the latch, the slot goes on with TF sampled. -/
theorem State.takeTrap_of_not_trap (noTrap : s.trapLatch = false) : s.takeTrap = s.setTrapLatch s.flags.tf := by
  simp only [State.takeTrap, noTrap, Bool.false_eq_true, if_false]

theorem step_of_interrupt (noTrap : s.boundary.trapLatch = false) (due : s.boundary.interruptDue = true) :
    step s = .next ((s.boundary.setTrapLatch s.boundary.flags.tf).takeInterrupt.setInstrCount
      (s.boundary.instrCount + 1)) := by
  have sampled : (s.boundary.setTrapLatch s.boundary.flags.tf).interruptDue = true := due
  simp only [step, State.slot, noTrap, Bool.false_eq_true, if_false, State.takeTrap_of_not_trap noTrap, sampled, if_true,
    State.retire, State.takeInterrupt_instrCount, State.setTrapLatch_instrCount]

theorem step_of_halt (noTrap : s.boundary.trapLatch = false) (notDue : s.boundary.interruptDue = false)
    (halted : s.boundary.halt = true) :
    step s = .next ((s.boundary.setTrapLatch s.boundary.flags.tf).setInstrCount (s.boundary.instrCount + 1)) := by
  have sampled : (s.boundary.setTrapLatch s.boundary.flags.tf).interruptDue = false := notDue
  simp only [step, State.slot, noTrap, Bool.false_eq_true, if_false, State.takeTrap_of_not_trap noTrap, sampled,
    State.setTrapLatch_halt, halted, if_true, State.retire, State.setTrapLatch_instrCount]

end

/-! The latch reaches nothing of what `IntCall` does. -/

section
variable (s : State) (l : Bool)

theorem State.writeByte_setTrapLatch (a : Addr) (v : Byte) :
    (s.setTrapLatch l).writeByte a v = (s.writeByte a v).setTrapLatch l := by
  simp only [State.writeByte, apply_ite (State.setTrapLatch · l)]
  rfl

theorem State.push16_setTrapLatch (v : Word) : (s.setTrapLatch l).push16 v = (s.push16 v).setTrapLatch l := by
  have sp : (s.setTrapLatch l).grown = s.grown.setTrapLatch l := rfl
  simp only [State.push16, sp, State.writeTop, State.writeSeg16, State.writeWord, State.writeByte_setTrapLatch]
  rfl

theorem State.intCall_setTrapLatch (n : Byte) : (s.setTrapLatch l).intCall n = (s.intCall n).setTrapLatch l := by
  have cs : (s.setTrapLatch l).seg .cs = s.seg .cs := rfl
  simp only [State.intCall, State.setTrapLatch_flags, State.setTrapLatch_ip, cs, State.push16_setTrapLatch]
  rfl

/-- The latch and the counter written by name are those fields replaced. -/
theorem State.setTrapLatch_setInstrCount (n : Nat) :
    (s.setTrapLatch l).setInstrCount n = { s with trapLatch := l, instrCount := n } := rfl

end

/-- Settles O13: the slot's three branches before an instruction. -/
theorem slotOrder : Obligations.SlotOrder := by
  intro s b
  simp only [← State.setTrapLatch_setInstrCount]
  refine ⟨step_of_trap, fun noTrap ifl eligible => ?_, fun noTrap none halted => ?_⟩
  · have due : b.interruptDue = true := Bool.and_eq_true_iff.mpr ⟨ifl, eligible⟩
    rw [step_of_interrupt noTrap due]
    exact congrArg (fun t : State => Host.Outcome.next (t.setInstrCount (b.instrCount + 1)))
      (State.intCall_setTrapLatch ((b.setHalt false).setPic b.pic.acknowledged) _ _)
  · exact step_of_halt noTrap (Bool.and_eq_false_iff.mpr none) halted

/-- Settles O14: the events of the boundary reach neither the CPU nor the latch; then the slot vectors 1, which clears IF and
keeps the halt, or does nothing. -/
theorem haltWithInterruptsOffHangs : Obligations.HaltWithInterruptsOffHangs := by
  intro s halted off
  have halt : s.boundary.halt = true := s.boundary_halt.trans halted
  cases trap : s.trapLatch with
  | true =>
    refine ⟨_, step_of_trap (s.boundary_trapLatch.trans trap), ?_, ?_, nofun⟩
    · simpa using halted
    · simp [State.intCall_flags, Flags.masked]
  | false =>
    have notDue : s.boundary.interruptDue = false :=
      Bool.and_eq_false_iff.mpr (.inl ((congrArg Flags.ifl s.boundary_flags).trans off))
    refine ⟨_, step_of_halt (s.boundary_trapLatch.trans trap) notDue halt, ?_⟩
    simp [halted, off]

/-! ### Batches of slots (R505) -/

theorem exec86_of_step {s t : State} (slot : step s = .next t) (n : Nat) :
    exec86 (n + 1) s = if t.running then exec86 n t else .next t := by
  rw [exec86, slot]

/-- The first slot of a batch that completes. -/
theorem step_of_exec86 {s t : State} {n : Nat} (batch : exec86 (n + 1) s = .next t) : ∃ u, step s = .next u := by
  rw [exec86] at batch
  cases slot : step s with
  | next u => exact ⟨u, rfl⟩
  | fault r => rw [slot] at batch; cases batch
  | refused r => rw [slot] at batch; cases batch

/-- Settles O15: by induction on the first batch; the longer batch begins with its slots. -/
theorem batchesJoin : Obligations.BatchesJoin := by
  intro a b s t first
  induction a generalizing s with
  | zero =>
    cases first
    exact ⟨fun _ => by rw [Nat.zero_add], fun pos => absurd pos (Nat.lt_irrefl 0)⟩
  | succ a ih =>
    obtain ⟨u, slot⟩ := step_of_exec86 first
    rw [exec86_of_step slot] at first
    rw [Nat.add_right_comm, exec86_of_step slot]
    split at first
    · next running =>
      obtain ⟨join, ended⟩ := ih u first
      simp only [running, if_true]
      refine ⟨fun goes => join (goes.imp_left nofun), fun _ stopped => ?_⟩
      cases a with
      | zero =>
        cases first
        rw [running] at stopped
        cases stopped
      | succ a => exact ended (Nat.succ_pos a) stopped
    · next stopped =>
      cases first
      exact ⟨fun goes => absurd (goes.resolve_left nofun) stopped, fun _ _ => if_neg stopped⟩

end Sys2Proof.Machine
end

section
/-! PROOFS of the statement about endless prefixes (spec/70_reset_and_hazards.md R646): the opcode map gives a prefix for the six
prefix bytes only (spec/30_encoding.md R104), so the prefix loop ends with an instruction at the first other byte. -/

namespace Sys2Proof

open Machine (prefixBytes)

/-! ### Only a prefix byte decodes to a prefix (R104) -/

/-- The instructions that a tail completes are no prefixes. -/
def Tail.NoPrefix : Tail → Prop
  | .done i => i.isPrefix = false
  | .imm8 k => ∀ b, (k b).isPrefix = false
  | .imm16 k => ∀ v, (k v).isPrefix = false
  | .imm16imm8 k => ∀ v b, (k v b).isPrefix = false
  | .far k => ∀ off seg, (k off seg).isPrefix = false

/-- No operand of the row leads to a prefix. -/
def Row.NoPrefix : Row → Prop
  | .plain t => t.NoPrefix
  | .modrm k => ∀ reg rm, (k reg rm).NoPrefix

theorem isPrefix_of_decodeTail {t : Tail} (h : t.NoPrefix) {bytes rest : List Byte} {i : Instr}
    (decoded : decodeTail t bytes = .ok (i, rest)) : i.isPrefix = false := by
  unfold decodeTail at decoded
  split at decoded
  case h_6 => cases decoded
  all_goals
    cases decoded
    simp only [Tail.NoPrefix] at h
    exact h ..

theorem isPrefix_of_decodeWith {ext : Bool} {op : Byte} (h : (opcodeRow ext op).NoPrefix) {bytes rest : List Byte}
    {i : Instr} (decoded : decodeWith ext (op :: bytes) = .ok (i, rest)) : i.isPrefix = false := by
  simp only [decodeWith] at decoded
  split at decoded
  · next row =>
    rw [row] at h
    exact isPrefix_of_decodeTail h decoded
  · next row =>
    rw [row] at h
    split at decoded
    · cases decoded
    · exact isPrefix_of_decodeTail (h _ _) decoded

theorem aluInstr_isPrefix (o : BitVec 3) (f : AluForm) : (aluInstr o f).isPrefix = false := by
  unfold aluInstr
  split <;> rfl

theorem jccInstr_isPrefix (cc : BitVec 4) (rel : Byte) : (jccInstr cc rel).isPrefix = false := by
  unfold jccInstr
  split <;> rfl

theorem shiftInstr_isPrefix {reg : BitVec 3} {x : RmForm} {count : ShiftCount} {i : Instr}
    (h : shiftInstr reg x count = some i) : i.isPrefix = false := by
  unfold shiftInstr at h
  split at h <;> cases h <;> rfl

theorem shiftTail_noPrefix (op : Byte) (reg : BitVec 3) (rm : RM (BitVec 3)) (x : RmForm) (count : ShiftCount) :
    (shiftTail op reg rm x count).NoPrefix := by
  unfold shiftTail
  split
  · next some => exact shiftInstr_isPrefix some
  · rfl

theorem shiftImmTail_noPrefix (op : Byte) (reg : BitVec 3) (rm : RM (BitVec 3)) (x : RmForm) :
    (shiftImmTail op reg rm x).NoPrefix := by
  unfold shiftImmTail
  split
  · rfl
  · intro b
    cases count : shiftInstr reg x (.imm b) with
    | none => simp only [count]; rfl
    | some i => simp only [count]; exact shiftInstr_isPrefix count

theorem group3Instr_isPrefix (op : Byte) (reg : BitVec 3) (rm : RM (BitVec 3)) (x : RmForm) :
    (group3Instr op reg rm x).isPrefix = false := by
  unfold group3Instr
  split <;> rfl

theorem group5Instr_isPrefix (op : Byte) (reg : BitVec 3) (rm : RM (BitVec 3)) :
    (group5Instr op reg rm).isPrefix = false := by
  unfold group5Instr
  split <;> rfl

/-- Of the rows of the two-operand operations, number 6 holds the four segment prefixes. -/
theorem rowAlu_noPrefix {o lo : BitVec 3} (other : 0#2 ++ o ++ lo ∉ prefixBytes) : (rowAlu o lo).NoPrefix := by
  unfold rowAlu
  split
  case h_7 six =>
    obtain rfl := eq_ofNat_of_toNat six
    revert o
    simp only [Row.NoPrefix, Tail.NoPrefix]
    decide
  case h_8 => dsimp only [Row.NoPrefix, Tail.NoPrefix]; split <;> rfl
  all_goals simp [Row.NoPrefix, Tail.NoPrefix, aluInstr_isPrefix]

theorem row6_noPrefix (ext : Bool) (op : Byte) : (row6 ext op).NoPrefix := by
  unfold row6
  split
  · rfl
  · split
    case h_3 => intro _ rm; cases rm <;> rfl
    all_goals simp [Row.NoPrefix, Tail.NoPrefix, Instr.isPrefix]

theorem row8_noPrefix (op : Byte) : (row8 op).NoPrefix := by
  unfold row8
  split
  case h_13 | h_15 | h_16 => intro _ _; dsimp only [Tail.NoPrefix]; split <;> rfl
  case h_1 | h_2 | h_3 | h_4 => exact fun _ _ _ => aluInstr_isPrefix ..
  case h_14 => intro _ rm; cases rm <;> rfl
  all_goals simp [Row.NoPrefix, Tail.NoPrefix, Instr.isPrefix]

theorem row9_noPrefix (op : Byte) : (row9 op).NoPrefix := by
  unfold row9
  split <;> simp [Row.NoPrefix, Tail.NoPrefix, Instr.isPrefix]

theorem rowA_noPrefix (op : Byte) : (rowA op).NoPrefix := by
  unfold rowA
  split <;> simp [Row.NoPrefix, Tail.NoPrefix, Instr.isPrefix]

theorem rowC_noPrefix (ext : Bool) (op : Byte) : (rowC ext op).NoPrefix := by
  unfold rowC
  split
  · rfl
  · split
    case h_1 | h_2 => exact fun _ _ => shiftImmTail_noPrefix ..
    case h_5 | h_6 => intro _ rm; cases rm <;> rfl
    case h_7 | h_8 =>
      intro _ _
      dsimp only
      split
      · exact fun _ => rfl
      · rfl
    all_goals simp [Row.NoPrefix, Tail.NoPrefix, Instr.isPrefix]

theorem rowD_noPrefix (op : Byte) : (rowD op).NoPrefix := by
  unfold rowD
  split
  case h_1 | h_2 | h_3 | h_4 => exact fun _ _ => shiftTail_noPrefix ..
  all_goals simp [Row.NoPrefix, Tail.NoPrefix, Instr.isPrefix]

theorem rowE_noPrefix (op : Byte) : (rowE op).NoPrefix := by
  unfold rowE
  split <;> simp [Row.NoPrefix, Tail.NoPrefix, Instr.isPrefix]

/-- F2 and F3 are the repeat prefixes. -/
theorem rowF_noPrefix {op : Byte} (other : op ∉ prefixBytes) : (rowF op).NoPrefix := by
  unfold rowF
  split
  case h_3 e | h_4 e => exact absurd (eq_ofNat_of_toNat e ▸ by decide) other
  case h_7 | h_8 =>
    intro _ _
    dsimp only
    split
    · exact fun _ => rfl
    · exact group3Instr_isPrefix ..
  case h_15 => intro _ _; dsimp only [Tail.NoPrefix]; split <;> rfl
  case h_16 => exact fun _ _ => group5Instr_isPrefix ..
  all_goals rfl

/-- The fields of an opcode below 40. -/
theorem fields_of_high_lt {op : Byte} (h : (op.extractLsb' 4 4).toNat < 4) :
    op = 0#2 ++ op.extractLsb' 3 3 ++ op.extractLsb' 0 3 := by
  revert op; decide

theorem opcodeRow_noPrefix (ext : Bool) {op : Byte} (other : op ∉ prefixBytes) : (opcodeRow ext op).NoPrefix := by
  unfold opcodeRow
  dsimp only
  split
  case h_1 high | h_2 high | h_3 high | h_4 high =>
    have fields := fields_of_high_lt (op := op) (by omega)
    exact rowAlu_noPrefix fun mem => other (by rwa [fields])
  case h_5 | h_6 => dsimp only [Row.NoPrefix, Tail.NoPrefix]; split <;> rfl
  case h_7 => exact row6_noPrefix ext op
  case h_8 => exact jccInstr_isPrefix _
  case h_9 => exact row8_noPrefix op
  case h_10 => exact row9_noPrefix op
  case h_11 => exact rowA_noPrefix op
  case h_12 => split <;> exact fun _ => rfl
  case h_13 => exact rowC_noPrefix ext op
  case h_14 => exact rowD_noPrefix op
  case h_15 => exact rowE_noPrefix op
  case h_16 => exact rowF_noPrefix other

end Sys2Proof

namespace Sys2Proof.Machine

/-! ### The item at CS:IP (R70, R103) -/

theorem exists_prefix_of_mem {b : Byte} (h : b ∈ prefixBytes) : ∃ p : Instr, p.isPrefix = true ∧ encode p = [b] := by
  simp only [prefixBytes, List.mem_cons, List.not_mem_nil, or_false] at h
  obtain rfl | rfl | rfl | rfl | rfl | rfl := h
  · exact ⟨.segEs, rfl, rfl⟩
  · exact ⟨.segCs, rfl, rfl⟩
  · exact ⟨.segSs, rfl, rfl⟩
  · exact ⟨.segDs, rfl, rfl⟩
  · exact ⟨.repne, rfl, rfl⟩
  · exact ⟨.rep, rfl, rfl⟩

section
variable {s : State}

theorem State.fetch_of_decode {i : Instr} {rest : List Byte} (h : decode s.fetchWindow = .ok (i, rest)) :
    s.fetch = some (i, s.setIp (s.ip + BitVec.ofNat 16 (maxInstrBytes - rest.length))) := by
  rw [State.fetch, h]

/-- A prefix byte at CS:IP is fetched as its prefix. -/
theorem State.fetch_of_prefixByte (h : s.fetchByte 0 ∈ prefixBytes) :
    ∃ p : Instr, p.isPrefix = true ∧ s.fetch = some (p, s.setIp (s.ip + BitVec.ofNat 16 1)) := by
  obtain ⟨p, isPrefix, bytes⟩ := exists_prefix_of_mem h
  have there : s.bytesAtIp (encode p) := by
    rw [bytes]
    intro k b hk
    match k, hk with
    | 0, rfl => rfl
  have fetched := State.fetch_of_bytesAtIp (wellFormed_of_isPrefix isPrefix) there
  rw [bytes] at fetched
  exact ⟨p, isPrefix, fetched⟩

/-- Another byte at CS:IP begins an instruction. -/
theorem State.fetch_of_otherByte (h : s.fetchByte 0 ∉ prefixBytes) :
    ∃ (i : Instr) (t : State), i.isPrefix = false ∧ s.fetch = some (i, t) := by
  obtain ⟨i, n, -, -, decoded, -⟩ := decodingIsTotal Config.ext186 s.fetchWindow (s.length_fetchBytes 0 _).ge
  exact ⟨i, _, isPrefix_of_decodeWith (opcodeRow_noPrefix _ h) decoded, State.fetch_of_decode decoded⟩

end

/-! ### The prefix loop (R103, R646) -/

/-- The loop gets stuck when it meets only prefix bytes, and completes an instruction when it meets another byte. -/
theorem runItems_cases (fuel : Nat) (s : State) :
    (∀ k < fuel, s.fetchByte k ∈ prefixBytes) ∧ runItems fuel s = .fault .endlessPrefixes ∨
      (∃ k < fuel, s.fetchByte k ∉ prefixBytes) ∧ ∃ t, runItems fuel s = .next t := by
  induction fuel generalizing s with
  | zero => exact .inl ⟨nofun, rfl⟩
  | succ fuel ih =>
    by_cases first : s.fetchByte 0 ∈ prefixBytes
    · obtain ⟨p, isPrefix, fetched⟩ := State.fetch_of_prefixByte first
      let u := (s.setIp (s.ip + BitVec.ofNat 16 1)).withPrefixes [p]
      have later (k : Nat) : u.fetchByte k = s.fetchByte (k + 1) :=
        (State.fetchByte_of_ip (s := s) (t := u) (n := 1) rfl rfl rfl k).trans (by rw [Nat.add_comm])
      have runs : runItems (fuel + 1) s = runItems fuel u := by
        simp only [runItems, fetched, isPrefix, if_true, exec_prefix isPrefix]
        rfl
      rw [runs]
      refine (ih u).imp (And.imp_left fun all k bound => ?_) (And.imp_left fun ⟨k, bound, other⟩ => ?_)
      · cases k with
        | zero => exact first
        | succ k => exact later k ▸ all k (Nat.lt_of_succ_lt_succ bound)
      · exact ⟨k + 1, Nat.succ_lt_succ bound, later k ▸ other⟩
    · obtain ⟨i, t, noPrefix, fetched⟩ := State.fetch_of_otherByte first
      obtain ⟨u, executed, -⟩ := executionAlwaysCompletes i t
      refine .inr ⟨⟨0, Nat.succ_pos fuel, first⟩, u, ?_⟩
      simp only [runItems, fetched, noPrefix, Bool.false_eq_true, if_false, executed]

/-! ### The slot -/

/-- A slot that does not execute an instruction completes: it vectors, or is halted. -/
theorem step_of_not_executes {s : State} (h : ¬ s.Executes) : ∃ t, step s = .next t := by
  by_cases trap : s.boundary.trapLatch = true
  · exact ⟨_, step_of_trap trap⟩
  · have noTrap := Bool.eq_false_iff.mpr trap
    by_cases due : s.boundary.interruptDue = true
    · exact ⟨_, step_of_interrupt noTrap due⟩
    · have notDue := Bool.eq_false_iff.mpr due
      have halted : s.boundary.halt = true := by
        by_contra runs
        exact h ⟨noTrap, notDue, Bool.eq_false_iff.mpr runs⟩
      exact ⟨_, step_of_halt noTrap notDue halted⟩

/-- The bytes reachable through CS are those that 65 536 fetches reach (R70). -/
theorem State.forall_fetchByte_iff (s : State) (P : Byte → Prop) :
    (∀ k < Config.prefixBound, P (s.fetchByte k)) ↔ ∀ off : Word, P (s.readByte (phys (s.seg .cs) off)) := by
  refine ⟨fun all off => ?_, fun all k _ => all _⟩
  have reached := all (off - s.ip).toNat (off - s.ip).isLt
  rwa [State.fetchByte, BitVec.ofNat_toNat, BitVec.setWidth_eq, BitVec.add_comm, BitVec.sub_add_cancel] at reached

/-- All bytes reachable through CS are prefix bytes. -/
def State.OnlyPrefixes (s : State) : Prop := ∀ off : Word, s.readByte (phys (s.seg .cs) off) ∈ prefixBytes

/-- A slot gets stuck when it executes and finds only prefixes, and completes otherwise. -/
theorem step_cases (s : State) :
    (s.Executes ∧ s.boundary.OnlyPrefixes) ∧ step s = .fault .endlessPrefixes ∨
      ¬ (s.Executes ∧ s.boundary.OnlyPrefixes) ∧ ∃ t, step s = .next t := by
  by_cases executes : s.Executes
  · have start (k : Nat) : (s.decoded none .norep 0).fetchByte k = s.boundary.fetchByte k :=
      (State.fetchByte_of_ip (s := s.boundary) (n := 0) (t := s.decoded none .norep 0) rfl rfl rfl k).trans (by rw [Nat.zero_add])
    have reached := s.boundary.forall_fetchByte_iff (· ∈ prefixBytes)
    simp only [← start] at reached
    rw [executes.step_eq]
    obtain ⟨all, runs⟩ | ⟨⟨k, bound, other⟩, t, runs⟩ := runItems_cases Config.prefixBound (s.decoded none .norep 0)
    · exact .inl ⟨⟨executes, reached.mp all⟩, by rw [runs]; rfl⟩
    · exact .inr ⟨fun ⟨_, all⟩ => other (reached.mpr all k bound), _, by rw [runs]; rfl⟩
  · exact .inr ⟨fun ⟨h, _⟩ => executes h, step_of_not_executes executes⟩

/-- Settles O12: the fault is one of a slot's two outcomes, and a refusal is none of them. -/
theorem endlessPrefixesStop : Obligations.EndlessPrefixesStop := by
  refine ⟨fun s => ?_, fun s r refused => ?_⟩
  · obtain ⟨all, stuck⟩ | ⟨other, t, next⟩ := step_cases s
    · exact iff_of_true stuck all
    · exact iff_of_false (fun stuck => nomatch stuck.symm.trans next) other
  · obtain ⟨-, stuck⟩ | ⟨-, t, next⟩ := step_cases s
    · exact nomatch refused.symm.trans stuck
    · exact nomatch refused.symm.trans next

end Sys2Proof.Machine
end

section
/-! PROOFS of the statements about the interrupt controller (spec/61_devices.md R552 to R559), by the bits of its registers. -/

namespace Sys2Proof.Machine

/-! ### One bit of a byte (R12) -/

section
variable (b : Byte) (i : Fin 8) (j : Nat)

theorem getLsbD_bitMask : (bitMask i).getLsbD j = decide (j = i.val) := by
  have inside := i.isLt
  rw [bitMask, BitVec.getLsbD_shiftLeft, BitVec.getLsbD_one, Bool.eq_iff_iff]
  simp
  omega

theorem getLsbD_setBit : (setBit b i).getLsbD j = (b.getLsbD j || decide (j = i.val)) := by
  rw [setBit, BitVec.getLsbD_or, getLsbD_bitMask]

theorem getLsbD_clearBit : (clearBit b i).getLsbD j = (b.getLsbD j && decide (j ≠ i.val)) := by
  rw [clearBit, BitVec.getLsbD_and, BitVec.getLsbD_not, getLsbD_bitMask, decide_not]
  by_cases inside : j < 8
  · simp [inside]
  · simp [inside, BitVec.getLsbD_of_ge b j (Nat.le_of_not_lt inside)]

theorem setBit_setBit : setBit (setBit b i) i = setBit b i := by
  rw [setBit, setBit, BitVec.or_assoc, BitVec.or_self]

end

/-- `lowestBit` finds the lowest 1 bit, and none in a zero byte only. -/
theorem lowestBit_cases (b : Byte) :
    b = 0 ∧ lowestBit b = none ∨
      ∃ i : Fin 8, lowestBit b = some i ∧ b.getLsbD i.val = true ∧ ∀ j < i.val, b.getLsbD j = false := by
  revert b
  decide

theorem lowestBit_eq_some {b : Byte} {i : Fin 8} (set : b.getLsbD i.val = true)
    (lowest : ∀ j < i.val, b.getLsbD j = false) : lowestBit b = some i := by
  obtain ⟨rfl, -⟩ | ⟨k, found, setK, lowestK⟩ := lowestBit_cases b
  · simp at set
  · have notLower : ¬ k.val < i.val := fun lower => nomatch setK.symm.trans (lowest _ lower)
    have notHigher : ¬ i.val < k.val := fun higher => nomatch set.symm.trans (lowestK _ higher)
    rw [found, Fin.ext (by omega : k.val = i.val)]

namespace Pic

/-! ### Requests and the acknowledge (R552 to R554) -/

theorem getLsbD_pending (p : Pic) (i : Nat) : p.pending.getLsbD i = (p.irr.getLsbD i && !p.imr.getLsbD i) := by
  rw [pending, BitVec.getLsbD_and, BitVec.getLsbD_not]
  by_cases inside : i < 8
  · simp [inside]
  · simp [inside, BitVec.getLsbD_of_ge p.irr i (Nat.le_of_not_lt inside)]

/-- An eligible PIC has a lowest pending line. -/
theorem exists_lowestBit_pending {p : Pic} (h : p.eligible = true) :
    ∃ i : Fin 8, lowestBit p.pending = some i ∧ p.pending.getLsbD i.val = true ∧
      ∀ j < i.val, p.pending.getLsbD j = false := by
  obtain ⟨zero, -⟩ | found := lowestBit_cases p.pending
  · exact absurd zero (bne_iff_ne.mp h)
  · exact found

theorem eligible_iff (p : Pic) :
    p.eligible = true ↔ ∃ i, i < 8 ∧ p.irr.getLsbD i = true ∧ p.imr.getLsbD i = false := by
  refine ⟨fun h => ?_, fun ⟨i, _, requested, unmasked⟩ => bne_iff_ne.mpr fun zero => ?_⟩
  · obtain ⟨i, -, set, -⟩ := exists_lowestBit_pending h
    simp only [getLsbD_pending, Bool.and_eq_true, Bool.not_eq_true'] at set
    exact ⟨i, i.isLt, set⟩
  · have set := p.getLsbD_pending i
    simp [zero, requested, unmasked] at set

theorem doirq_of_lt (p : Pic) {line : Nat} (h : line < 8) : p.doirq line = { p with irr := setBit p.irr ⟨line, h⟩ } :=
  dif_pos h

theorem doirq_of_le (p : Pic) {line : Nat} (h : 8 ≤ line) : p.doirq line = p := dif_neg (Nat.not_lt.mpr h)

section
variable {p : Pic} {i : Fin 8} (h : lowestBit p.pending = some i)
include h

theorem acknowledged_of_some : p.acknowledged = { p with irr := clearBit p.irr i, isr := setBit p.isr i } := by
  rw [acknowledged, h]

theorem vector_of_some : p.vector = BitVec.ofNat 8 (p.icw2.toNat + i.val) := by
  rw [vector, h, BitVec.ofNat_add, BitVec.ofNat_toNat, BitVec.setWidth_eq]

end

end Pic

/-- Settles O51: a request sets one bit, and the acknowledge moves the lowest pending one. -/
theorem picRequests : Obligations.PicRequests := by
  refine ⟨Pic.eligible_iff, fun p line => ?_, fun p h => ?_⟩
  · by_cases inside : line < 8
    · simp only [Pic.doirq_of_lt _ inside, setBit_setBit, getLsbD_setBit, inside, and_true, true_and]
      exact ⟨fun above => absurd inside (Nat.not_lt.mpr above), fun _ => trivial⟩
    · simp [Pic.doirq_of_le _ (Nat.le_of_not_lt inside), inside]
  · obtain ⟨i, lowest, set, below⟩ := Pic.exists_lowestBit_pending h
    simp only [Pic.getLsbD_pending, Bool.and_eq_true, Bool.and_eq_false_imp, Bool.not_eq_true', Bool.not_eq_false'] at set below
    obtain ⟨requested, unmasked⟩ := set
    rw [Pic.acknowledged_of_some lowest]
    exact ⟨i, i.isLt, requested, unmasked, below, Pic.vector_of_some lowest, rfl, getLsbD_clearBit _ _,
      getLsbD_setBit _ _⟩

/-! ### The ports (R555 to R559) -/

theorem Pic.eoi_of_none {p : Pic} (h : lowestBit p.isr = none) : p.eoi = p := by
  rw [Pic.eoi, h]

/-- The EOI clears the lowest in-service bit, and asserts line 0 again for the ticks that it held back (R557, R560). -/
theorem Pic.eoi_of_some {p : Pic} {i : Fin 8} (h : lowestBit p.isr = some i) :
    p.eoi = if i.val = 0 ∧ 0 < p.catchup
      then { p with isr := clearBit p.isr i, catchup := 0, irr := setBit p.irr 0 }
      else { p with isr := clearBit p.isr i } := by
  rw [Pic.eoi, h]

/-- No ICW4 is taken unless ICW1 asks for one (D19). -/
theorem Pic.needsIcw4_eq (p : Pic) : p.needsIcw4 = p.icw1.getLsbD 0 := Bool.or_false _

/-- Settles O52: the commands by the bits that tell them apart, the data port by the step of the initialisation, and the EOI
by the lowest bit in service. -/
theorem picPorts : Obligations.PicPorts := by
  refine ⟨fun p v => ⟨fun icw1 => ?_, fun notIcw1 ocw3 => ?_, fun notIcw1 notOcw3 => ?_⟩, fun p v => ?_,
    fun p => ⟨fun idle => ?_, fun line inside set lowest => ?_⟩, fun p => ⟨rfl, rfl⟩⟩
  · rw [Pic.writeCommand, if_pos icw1]
  · simp only [Pic.writeCommand, notIcw1, ocw3, if_true, Bool.false_eq_true, if_false]
  · simp only [Pic.writeCommand, notIcw1, notOcw3, Bool.false_eq_true, if_false]
  · refine ⟨fun step => ?_, fun step => ?_, fun step => ?_, fun step => ?_⟩
    · simp only [Pic.writeData, step, Pic.needsIcw4_eq]
      cases p.icw1.getLsbD 1 <;> rfl
    · simp only [Pic.writeData, step, Pic.needsIcw4_eq]
    · simp only [Pic.writeData, step]
    · simp only [Pic.writeData, step]
  · rw [Pic.eoi_of_none (by rw [idle]; rfl)]
  · have found : lowestBit p.isr = some ⟨line, inside⟩ := lowestBit_eq_some set lowest
    intro rearms
    rw [Pic.eoi_of_some found]
    by_cases again : line = 0 ∧ 0 < p.catchup
    · rw [if_pos again]
      refine ⟨getLsbD_clearBit _ _, fun i => ?_, (if_pos again).symm, rfl⟩
      simp [getLsbD_setBit, rearms, again]
    · rw [if_neg again]
      refine ⟨getLsbD_clearBit _ _, fun i => ?_, (if_neg again).symm, rfl⟩
      simp only [rearms, again, and_false, decide_false, Bool.or_false]

end Sys2Proof.Machine
end

section
/-! PROOFS of the statements about the timer, the DMA controller and the scheduler (spec/61_devices.md R570 to R596, R620 to
R622). -/

namespace Sys2Proof.Machine

/-! ### Channels by their number -/

theorem Pit.get_set (p : Pit) (c d : Fin 3) (x : PitChannel) : (p.set c x).get d = if d = c then x else p.get d := by
  match c, d with
  | 0, 0 | 0, 1 | 0, 2 | 1, 0 | 1, 1 | 1, 2 | 2, 0 | 2, 1 | 2, 2 => rfl

theorem Dma.get_set (d : Dma) (c e : Fin 4) (x : DmaChannel) : (d.set c x).get e = if e = c then x else d.get e := by
  match c, e with
  | 0, 0 | 0, 1 | 0, 2 | 0, 3 | 1, 0 | 1, 1 | 1, 2 | 1, 3 | 2, 0 | 2, 1 | 2, 2 | 2, 3 | 3, 0 | 3, 1 | 3, 2 | 3, 3 => rfl

@[simp] theorem Dma.set_flipHigh (d : Dma) (c : Fin 4) (x : DmaChannel) : (d.set c x).flipHigh = d.flipHigh := by
  match c with
  | 0 | 1 | 2 | 3 => rfl

/-! ### The PIT's ports (R573 to R575) -/

/-- The fields of a mode byte: the channel and the access mode. -/
theorem toNat_extractLsb'_eq (v : Byte) (start len : Nat) :
    (v.extractLsb' start len).toNat = v.toNat / 2 ^ start % 2 ^ len := by
  rw [BitVec.extractLsb'_toNat, Nat.shiftRight_eq_div_pow]

theorem Access.ofBits_eq (n : BitVec 2) :
    Access.ofBits n = if n.toNat = 0 then .latch else if n.toNat = 1 then .lo else if n.toNat = 2 then .hi else .toggle := by
  revert n
  decide

theorem Access.ofBits_eq_toggle_iff (n : BitVec 2) : Access.ofBits n = .toggle ↔ n.toNat = 3 := by
  revert n
  decide

/-- A mode byte sets the access mode of the channel that it names, and is dropped for channel 3 (R573). -/
theorem Pit.get_writeMode (p : Pit) (v : Byte) (c : Fin 3) :
    (p.writeMode v).get c =
      if (v.extractLsb' 6 2).toNat = c.val then (p.get c).withAccess (Access.ofBits (v.extractLsb' 4 2)) else p.get c := by
  unfold Pit.writeMode
  dsimp only
  split
  case h_1 channel | h_2 channel | h_3 channel =>
    rw [channel]
    match c with
    | 0 | 1 | 2 => rfl
  case h_4 no0 no1 no2 =>
    rw [if_neg]
    match c with
    | 0 => exact no0
    | 1 => exact no1
    | 2 => exact no2

theorem PitChannel.withAccess_eq (x : PitChannel) (n : BitVec 2) :
    x.withAccess (Access.ofBits n) = { x with access := if n.toNat = 0 then Access.latch else if n.toNat = 1 then .lo
      else if n.toNat = 2 then .hi else .toggle, flipHigh := if n.toNat = 3 then false else x.flipHigh } := by
  simp only [PitChannel.withAccess, Access.ofBits_eq_toggle_iff]
  rw [Access.ofBits_eq]

theorem PitChannel.afterRead_eq (x : PitChannel) :
    x.afterRead = if x.access = .toggle then { x with flipHigh := !x.flipHigh } else x := by
  unfold PitChannel.afterRead
  cases x.access <;> rfl

/-- A write to a data port, by access mode and flip-flop (R574). -/
theorem PitChannel.writeData_cases (x : PitChannel) (v : Byte) :
    let low := wordOf (high8 x.reload) v
    let high := wordOf v (low8 x.reload)
    (x.access = .latch → x.writeData v = x) ∧
    (x.access = .lo → x.writeData v = { x with reload := low, active := true }) ∧
    (x.access = .hi → x.writeData v = { x with reload := high, active := true }) ∧
    (x.access = .toggle → x.flipHigh = false →
      x.writeData v = { x with reload := low, active := true, flipHigh := true }) ∧
    (x.access = .toggle → x.flipHigh = true →
      x.writeData v = { x with reload := high, active := true, flipHigh := false }) := by
  refine ⟨fun mode => ?_, fun mode => ?_, fun mode => ?_, fun mode flip => ?_, fun mode flip => ?_⟩
  · simp only [PitChannel.writeData, mode]
  · simp only [PitChannel.writeData, mode]
  · simp only [PitChannel.writeData, mode]
  · simp only [PitChannel.writeData, mode, flip, Bool.false_eq_true, if_false, Bool.not_false]
  · simp only [PitChannel.writeData, mode, flip, if_true, Bool.not_true]

/-! ### Frequency and period (R570, R576, R578) -/

theorem PitChannel.freq_cases (x : PitChannel) :
    match Config.freqDivision with
    | .real => x.freq * x.eff = 1193182
    | .integer => x.freq = ((1193182 / x.eff : Nat) : ℚ) := by
  have nonzero : (x.eff : ℚ) ≠ 0 := Nat.cast_ne_zero.mpr x.eff_pos.ne'
  unfold PitChannel.freq
  cases Config.freqDivision with
  | real => exact div_mul_cancel₀ _ nonzero
  | integer => rfl

theorem PitChannel.period_mul (x : PitChannel) : x.period * 1193182 = x.eff :=
  div_mul_cancel₀ _ (by norm_num [Config.pitClockHz])

/-- Settles O53: channels by their number, the mode byte by its fields, the data port by access mode and flip-flop. -/
theorem pitPorts : Obligations.PitPorts := by
  refine ⟨fun p v c => ?_, PitChannel.writeData_cases, fun _ => rfl, fun s c d => ⟨?_, rfl⟩, Pit.get_set,
    fun x => ⟨x.freq_cases, x.period_mul⟩, fun s port v c => ?_⟩
  · have channel : v.toNat / 2 ^ 6 % 2 ^ 2 = v.toNat / 64 := Nat.mod_eq_of_lt (by omega)
    rw [Pit.get_writeMode, PitChannel.withAccess_eq, toNat_extractLsb'_eq, toNat_extractLsb'_eq, channel]
    rfl
  · refine (s.pit.get_set c d _).trans ?_
    rw [PitChannel.afterRead_eq]
    by_cases same : d = c
    · simp only [same, if_true, true_and]
    · simp only [same, if_false, false_and]
  · refine (congrArg PitChannel.freq (s.pit.get_set c 2 _)).trans ?_
    by_cases speaker : c = 2
    · subst speaker; rfl
    · rw [if_neg (Ne.symm speaker), if_neg speaker]; rfl

/-! ### The DMA controller (R593 to R596) -/

theorem dmaChannelOf_eq_iff (v : Byte) (e : Fin 4) : e = dmaChannelOf v ↔ e.val = v.toNat % 4 := by
  have number : (dmaChannelOf v).val = v.toNat % 4 := by
    rw [← Nat.div_one v.toNat]
    exact toNat_extractLsb'_eq v 0 2
  rw [Fin.ext_iff, number]

/-- The flip-flop is apart from the channels. -/
theorem Dma.get_setFlip (d : Dma) (high : Bool) (e : Fin 4) : Dma.get { d with flipHigh := high } e = d.get e := by
  match e with
  | 0 | 1 | 2 | 3 => rfl

/-- An update of the channel that a byte names. -/
theorem Dma.get_set_dmaChannelOf (d : Dma) (v : Byte) (f : DmaChannel → DmaChannel) (e : Fin 4) :
    (d.set (dmaChannelOf v) (f (d.get (dmaChannelOf v)))).get e
      = if e.val = v.toNat % 4 then f (d.get e) else d.get e := by
  rw [Dma.get_set]
  simp only [← dmaChannelOf_eq_iff]
  split
  · next same => rw [same]
  · rfl

theorem replaceByte_eq (w : Word) (high : Bool) (v : Byte) :
    replaceByte w high v = if high then v ++ w.extractLsb' 0 8 else w.extractLsb' 8 8 ++ v := rfl

namespace DmaChannel
variable {x : DmaChannel}

/-- A masked channel, and one that is past its count and does not start again, deliver nothing (R596). -/
theorem readAddr_of_done (done : x.masked = true ∨ x.reload.toNat < x.count ∧ x.autoinit = false) :
    x.readAddr = none ∧ x.afterRead = x := by
  cases masked : x.masked with
  | true => simp [readAddr, afterRead, masked]
  | false =>
    obtain ⟨past, off⟩ := done.resolve_left (by simp [masked])
    simp [readAddr, afterRead, masked, rearmed, past, off]

/-- The count from which the next byte is read: 0 when the channel starts again. -/
def startCount (x : DmaChannel) : Nat := if x.autoinit = true ∧ x.reload.toNat < x.count then 0 else x.count

theorem rearmed_eq (x : DmaChannel) : x.rearmed = { x with count := x.startCount } := by
  simp only [rearmed, startCount, Bool.and_eq_true, decide_eq_true_eq]
  split <;> rfl

/-- Otherwise the channel delivers the byte at its count and counts it (R596). -/
theorem readAddr_of_more (unmasked : x.masked = false) (more : x.reload.toNat < x.count → x.autoinit = true) :
    x.readAddr = some { x with count := x.startCount }.transferAddr ∧
      x.afterRead = { x with count := x.startCount + 1 } := by
  have within : ¬ x.reload.toNat < x.startCount := by
    unfold startCount
    split
    · exact Nat.not_lt_zero _
    · next stays => exact fun past => stays ⟨more past, past⟩
  refine ⟨?_, ?_⟩
  · simp only [readAddr, unmasked, Bool.false_eq_true, if_false, rearmed_eq, within]
  · simp only [afterRead, unmasked, Bool.false_eq_true, if_false, rearmed_eq, within]

end DmaChannel

section
variable (s : State) (c : Fin 4)

theorem State.dmaByte_eq : s.dmaByte c.val = match (s.dma.get c).readAddr with
    | some a => s.readByte a
    | none => Config.dmaSentinel := dif_pos c.isLt

theorem State.dmaAdvance_eq : s.dmaAdvance c.val = s.setDma (s.dma.set c (s.dma.get c).afterRead) := dif_pos c.isLt

theorem Dma.set_get (d : Dma) : d.set c (d.get c) = d := by
  match c with
  | 0 | 1 | 2 | 3 => rfl

end

/-- Settles O54: the ports by the channel that they name; `DmaRead` by whether the channel has a byte to deliver. -/
theorem dmaController : Obligations.DmaController := by
  refine ⟨fun d c e v => ?_, fun s c => ⟨fun done => ?_, fun unmasked more => ?_⟩, fun s channel above => ?_⟩
  · exact ⟨(Dma.get_setFlip ..).trans (Dma.get_set ..), rfl, (Dma.get_setFlip ..).trans (Dma.get_set ..), rfl,
      Dma.get_set .., Dma.set_flipHigh .., d.get_set_dmaChannelOf v (fun x => { x with masked := v.getLsbD 2 }) e,
      Dma.set_flipHigh .., d.get_set_dmaChannelOf v
        (fun x => { x with descend := v.getLsbD 5, autoinit := v.getLsbD 4, writemode := v.getLsbD 2 }) e,
      Dma.set_flipHigh .., rfl⟩
  · obtain ⟨nothing, same⟩ := DmaChannel.readAddr_of_done done
    rw [State.dmaByte_eq, nothing, State.dmaAdvance_eq, same, Dma.set_get]
    exact ⟨rfl, s.setDma_self⟩
  · obtain ⟨address, counted⟩ := DmaChannel.readAddr_of_more unmasked more
    rw [State.dmaByte_eq, address, State.dmaAdvance_eq, counted]
    exact ⟨rfl, rfl⟩
  · have absent : ¬ channel < 4 := Nat.not_lt.mpr above
    exact ⟨dif_neg absent, dif_neg absent⟩

/-! ### The scheduler (R576, R580, R620 to R622) -/

theorem Pit.counted_ch0_hostTicks (p : Pit) (d : Nat) : (p.counted d).ch0.hostTicks = p.ch0.hostTicks := by
  simp only [Pit.counted]
  split <;> rfl

section
variable (s : State) (now : Nat)

theorem State.tick_pit : (s.tick now).pit = s.pit.counted s.draws := by
  simp only [State.tick]
  split <;> simp

theorem State.tick_hostTick : (s.tick now).sched.hostTick = max s.sched.hostTick now := by
  simp only [State.tick]
  split <;> simp

/-- The marker advances by one interval when the interval has elapsed. -/
theorem State.tick_lastServiced :
    (s.tick now).sched.lastServiced =
      if s.sched.lastServiced + s.pit.ch0.hostTicks ≤ max s.sched.hostTick now
      then s.sched.lastServiced + s.pit.ch0.hostTicks else s.sched.lastServiced := by
  simp only [State.tick]
  split <;> simp

end

/-- A marker that follows whole intervals of iv ticks, one a poll, until it has caught up. -/
theorem marker_step {start now : Nat} (le : start ≤ now) (iv k : Nat) :
    (if start + iv * min k ((now - start) / iv) + iv ≤ now then start + iv * min k ((now - start) / iv) + iv
      else start + iv * min k ((now - start) / iv)) = start + iv * min (k + 1) ((now - start) / iv) := by
  rcases Nat.eq_zero_or_pos iv with rfl | pos
  · simp
  · have elapsed (m : Nat) : start + iv * m + iv ≤ now ↔ m + 1 ≤ (now - start) / iv := by
      rw [Nat.le_div_iff_mul_le pos, Nat.succ_mul, Nat.mul_comm]
      omega
    simp only [elapsed]
    split
    · next more =>
      have both : min (k + 1) ((now - start) / iv) = min k ((now - start) / iv) + 1 := by omega
      rw [both, Nat.mul_succ, Nat.add_assoc]
    · next done =>
      have both : min (k + 1) ((now - start) / iv) = min k ((now - start) / iv) := by omega
      rw [both]

/-- What k polls at `now` leave after `init()` at `start`: the interval and the activity of channel 0, a clock that is not
ahead, and the marker after min(k, n) intervals. -/
structure State.Polled (s : State) (start now k : Nat) (t : State) : Prop where
  interval : t.pit.ch0.hostTicks = s.pit.ch0.hostTicks
  active : t.pit.ch0.active = s.pit.ch0.active
  clock : t.sched.hostTick ≤ now
  marker : t.sched.lastServiced = start + s.pit.ch0.hostTicks * min k ((now - start) / s.pit.ch0.hostTicks)

theorem State.Polled.tick {s t : State} {start now k : Nat} (h : s.Polled start now k t) (le : start ≤ now) :
    s.Polled start now (k + 1) (t.tick now) where
  interval := by rw [State.tick_pit, Pit.counted_ch0_hostTicks, h.interval]
  active := by rw [State.tick_pit, Pit.counted_ch0_active, h.active]
  clock := by rw [State.tick_hostTick, Nat.max_eq_right h.clock]
  marker := by rw [State.tick_lastServiced, Nat.max_eq_right h.clock, h.interval, h.marker, marker_step le]

theorem State.polled_iterate (s : State) {start now : Nat} (le : start ≤ now) (k : Nat) :
    s.Polled start now k ((fun t : State => t.tick now)^[k] (s.schedulerInit start)) := by
  induction k with
  | zero => exact ⟨rfl, rfl, le, by rw [Nat.zero_min]; rfl⟩
  | succ k ih =>
    rw [Function.iterate_succ_apply']
    exact ih.tick le

/-- Settles O56: the marker and channel 0 after each poll, by induction on the polls; the interval is a quotient rounded by
less than one. -/
theorem schedulerCatchesUp : Obligations.SchedulerCatchesUp := by
  refine ⟨fun s start now k le => ⟨(s.polled_iterate le k).marker, ?_⟩, fun x => ?_⟩
  · have polled := s.polled_iterate le k
    dsimp only
    rw [Function.iterate_succ_apply', State.tick_pic, polled.interval, polled.active, Nat.max_eq_right polled.clock]
  · exact roundTicks_bounds (Config.hostFreq * x.eff) (by decide : 0 < Config.pitClockHz)

end Sys2Proof.Machine
end

section
/-! PROOFS of the statement about loading (spec/70_reset_and_hazards.md R634): one byte after the other, and no address met twice
by an image that fits memory. -/

namespace Sys2Proof.Machine

/-- One byte of an image: stored at its address, and marked there when the image is read-only. -/
def State.loadByte (s : State) (a : Addr) (readOnly : Bool) (b : Byte) : State :=
  let t := s.setMem (s.mem.write a.toNat b)
  if readOnly then t.setRo (t.ro.add a.toNat) else t

theorem State.loadImage_cons (s : State) (a : Addr) (readOnly : Bool) (b : Byte) (rest : List Byte) :
    s.loadImage a readOnly (b :: rest) = (s.loadByte a readOnly b).loadImage (a + 1) readOnly rest := rfl

section
variable (s : State) (a : Addr) (readOnly : Bool) (b : Byte)

theorem State.loadByte_mem : (s.loadByte a readOnly b).mem = s.mem.write a.toNat b := by
  cases readOnly <;> rfl

theorem State.loadByte_ro : (s.loadByte a readOnly b).ro = if readOnly then s.ro.add a.toNat else s.ro := by
  cases readOnly <;> rfl

theorem State.readByte_loadByte_self (hw : s.mem.wf = true) : (s.loadByte a readOnly b).readByte a = b := by
  rw [State.readByte, State.loadByte_mem, Memory.read_write hw, if_pos rfl]

theorem State.readByte_loadByte_ne {x : Addr} (other : x ≠ a) : (s.loadByte a readOnly b).readByte x = s.readByte x := by
  rw [State.readByte, State.loadByte_mem, Memory.read_write_ne _ _ fun e => other (BitVec.eq_of_toNat_eq e), State.readByte]

theorem State.has_loadByte_self : (s.loadByte a readOnly b).ro.has a.toNat = (readOnly || s.ro.has a.toNat) := by
  rw [State.loadByte_ro]
  cases readOnly
  · rfl
  · simp [RoMap.has_add]

theorem State.has_loadByte_ne {x : Addr} (other : x ≠ a) :
    (s.loadByte a readOnly b).ro.has x.toNat = s.ro.has x.toNat := by
  have apart : x.toNat ≠ a.toNat := fun e => other (BitVec.eq_of_toNat_eq e)
  rw [State.loadByte_ro]
  cases readOnly
  · rfl
  · simp [RoMap.has_add, apart]

theorem State.wf_loadByte (hw : s.mem.wf = true) : (s.loadByte a readOnly b).mem.wf = true := by
  rw [State.loadByte_mem]
  exact Memory.wf_write hw a b

theorem State.wf_ro_loadByte (hr : s.ro.wf = true) : (s.loadByte a readOnly b).ro.wf = true := by
  rw [State.loadByte_ro]
  cases readOnly
  · exact hr
  · exact RoMap.wf_add hr a

end

section
variable {s : State} {a : Addr} {readOnly : Bool} {image : List Byte}

theorem State.wf_loadImage (hw : s.mem.wf = true) : (s.loadImage a readOnly image).mem.wf = true := by
  induction image generalizing s a with
  | nil => exact hw
  | cons b rest ih => exact ih (s.wf_loadByte a readOnly b hw)

theorem State.wf_ro_loadImage (hr : s.ro.wf = true) : (s.loadImage a readOnly image).ro.wf = true := by
  induction image generalizing s a with
  | nil => exact hr
  | cons b rest ih => exact ih (s.wf_ro_loadByte a readOnly b hr)

/-- What lies past the image, counted from its start modulo 2^20, is as before. -/
theorem State.loadImage_outside {x : Addr} (past : image.length ≤ (x - a).toNat) :
    (s.loadImage a readOnly image).readByte x = s.readByte x ∧
      (s.loadImage a readOnly image).ro.has x.toNat = s.ro.has x.toNat := by
  induction image generalizing s a with
  | nil => exact ⟨rfl, rfl⟩
  | cons b rest ih =>
    rw [List.length_cons] at past
    have other : x ≠ a := by bv_omega
    obtain ⟨byte, mark⟩ := ih (s := s.loadByte a readOnly b) (a := a + 1) (by bv_omega)
    exact ⟨byte.trans (s.readByte_loadByte_ne a readOnly b other), mark.trans (s.has_loadByte_ne a readOnly b other)⟩

/-- The bytes of the image lie at consecutive addresses. -/
theorem State.loadImage_inside (hw : s.mem.wf = true) (fits : image.length ≤ Config.memSize) {k : Nat} {b : Byte}
    (byte : image[k]? = some b) :
    (s.loadImage a readOnly image).readByte (a + BitVec.ofNat 20 k) = b ∧
      (s.loadImage a readOnly image).ro.has (a + BitVec.ofNat 20 k).toNat
        = (readOnly || s.ro.has (a + BitVec.ofNat 20 k).toNat) := by
  induction image generalizing s a k with
  | nil => simp at byte
  | cons c rest ih =>
    rw [List.length_cons] at fits
    have size : Config.memSize = 1048576 := rfl
    cases k with
    | zero =>
      obtain rfl : c = b := by simpa using byte
      rw [BitVec.add_zero]
      obtain ⟨stays, mark⟩ := State.loadImage_outside (s := s.loadByte a readOnly c) (a := a + 1) (readOnly := readOnly)
        (image := rest) (x := a) (by bv_omega)
      exact ⟨stays.trans (s.readByte_loadByte_self a readOnly c hw), mark.trans (s.has_loadByte_self a readOnly c)⟩
    | succ k =>
      have inside : k < rest.length := Nat.lt_of_succ_lt_succ (List.getElem?_eq_some_iff.mp byte).1
      have next : a + BitVec.ofNat 20 (k + 1) = a + 1 + BitVec.ofNat 20 k := by bv_omega
      have other : a + 1 + BitVec.ofNat 20 k ≠ a := by bv_omega
      obtain ⟨stored, mark⟩ := ih (s := s.loadByte a readOnly c) (a := a + 1) (s.wf_loadByte a readOnly c hw)
        (Nat.le_of_succ_le fits) byte
      rw [next]
      exact ⟨stored, mark.trans (by rw [s.has_loadByte_ne a readOnly c other])⟩

end

/-! ### The start of the machine -/

theorem State.loadImages_frame (images : List Image) (s : State) (m : Memory) (r : RoMap) :
    { s.loadImages images with mem := m, ro := r } = { s with mem := m, ro := r } := by
  induction images generalizing s with
  | nil => rfl
  | cons x rest ih => exact (ih _).trans (State.loadImage_frame ..)

theorem State.wf_loadImages {images : List Image} {s : State} (hw : s.mem.wf = true) :
    (s.loadImages images).mem.wf = true := by
  induction images generalizing s with
  | nil => exact hw
  | cons x rest ih => exact ih (State.wf_loadImage hw)

theorem State.wf_ro_loadImages {images : List Image} {s : State} (hr : s.ro.wf = true) :
    (s.loadImages images).ro.wf = true := by
  induction images generalizing s with
  | nil => exact hr
  | cons x rest ih => exact ih (State.wf_ro_loadImage hr)

theorem State.boot_of_empty (g : Regs) (m : Memory) {images : List Image} (empty : ∀ x ∈ images, x.bytes = []) :
    State.boot g m images = .refused .noImage :=
  if_pos (List.all_eq_true.mpr fun x mem => by rw [empty x mem]; rfl)

theorem State.boot_of_byte (g : Regs) (m : Memory) {images : List Image} (byte : ∃ x ∈ images, x.bytes ≠ []) :
    State.boot g m images = .next ((State.powerOn g m []).loadImages images) := by
  obtain ⟨x, mem, nonempty⟩ := byte
  exact if_neg fun all => nonempty (List.isEmpty_iff.mp (List.all_eq_true.mp all x mem))

/-- Settles O5: a byte of the image is not met again by the rest of it, nor is a byte outside met at all; the start of the
machine loads the images one after the other. -/
theorem loadImageStores : Obligations.LoadImageStores := by
  refine ⟨fun s a readOnly image hw hr fits => ⟨fun k b byte => State.loadImage_inside hw fits byte,
    fun x past => State.loadImage_outside past, State.wf_loadImage hw, State.wf_ro_loadImage hr,
    State.loadImage_frame image s a readOnly s.mem s.ro⟩, fun g m images => ⟨State.boot_of_empty g m, fun byte => ?_⟩⟩
  rw [← State.loadImages_eq_foldl]
  exact ⟨State.boot_of_byte g m byte, State.loadImages_frame images _ m [], State.wf_ro_loadImages rfl,
    fun hw => State.wf_loadImages (s := State.powerOn g m []) hw⟩

end Sys2Proof.Machine
end

section
/-! PROOFS of the statement about what an instruction leaves of devices, control and outputs (spec/47_flags_io.md R415,
spec/48_int_misc.md R437, spec/61_devices.md R610, spec/20_memory.md R66): the shared operations, then one line for each
instruction. -/

namespace Sys2Proof.Machine

/-- The parts of the state that neither a device nor a store nor a register holds. -/
structure Control where
  halt : Bool
  trapLatch : Bool
  segOverride : Option SReg
  repMode : RepMode
  firstIp : Word
  ro : RoMap
  ports : List PortRange
  sched : Scheduler
  running : Bool
  events : List (List Event)

def State.control (s : State) : Control :=
  ⟨s.halt, s.trapLatch, s.segOverride, s.repMode, s.firstIp, s.ro, s.ports, s.sched, s.running, s.events⟩

def State.devices (s : State) : Pic × Pit × Dma := (s.pic, s.pit, s.dma)

/-- The control parts stand; the devices stand unless the footprint names them; output events come only with a store or a
port access of the footprint. -/
structure State.ReachesWithin (s : State) (x : Footprint) (t : State) : Prop where
  control : t.control = s.control
  devices : x.devices = false → t.devices = s.devices
  outputs : x.bytes = [] → x.devices = false → t.outputs = s.outputs

namespace State.ReachesWithin

variable {s t u : State} {x y : Footprint}

/-! ### One rule for each way to reach -/

/-- Registers, flags, IP and free values are none of it. -/
theorem quiet (control : t.control = s.control := by simp [State.control])
    (devices : t.devices = s.devices := by simp [State.devices]) (outputs : t.outputs = s.outputs := by simp) :
    s.ReachesWithin x t :=
  ⟨control, fun _ => devices, fun _ _ => outputs⟩

theorem trans (st : s.ReachesWithin x t) (tu : t.ReachesWithin x u) : s.ReachesWithin x u :=
  ⟨tu.control.trans st.control, fun none => (tu.devices none).trans (st.devices none),
    fun noBytes none => (tu.outputs noBytes none).trans (st.outputs noBytes none)⟩

/-- A store that the footprint names. -/
theorem stores (named : x.bytes ≠ []) (control : t.control = s.control := by simp [State.control])
    (devices : t.devices = s.devices := by simp [State.devices]) : s.ReachesWithin x t :=
  ⟨control, fun _ => devices, fun none _ => absurd none named⟩

/-- A port access that the footprint names. -/
theorem ports (named : x.devices = true) (control : t.control = s.control := by simp [State.control]) :
    s.ReachesWithin x t :=
  ⟨control, fun none => absurd (named.symm.trans none) nofun, fun _ none => absurd (named.symm.trans none) nofun⟩

/-- Registers and IP of a footprint do not matter. -/
theorem of_eq (h : s.ReachesWithin x t) (bytes : y.bytes = x.bytes := by rfl) (devices : y.devices = x.devices := by rfl) :
    s.ReachesWithin y t :=
  ⟨h.control, fun none => h.devices (devices ▸ none), fun noBytes none => h.outputs (bytes ▸ noBytes) (devices ▸ none)⟩

theorem write8 (h : s.ReachesWithin x t) {d : Loc Reg8} (v : Byte) (named : x.bytes = d.addrs8 := by rfl) :
    s.ReachesWithin x (t.write8 d v) := by
  cases d with
  | reg r => exact h.trans (.quiet rfl rfl rfl)
  | mem sg off => exact h.trans (.stores (by rw [named]; exact List.cons_ne_nil _ _))

theorem write16 (h : s.ReachesWithin x t) {d : Loc Reg16} (v : Word) (named : x.bytes = d.addrs16 := by rfl) :
    s.ReachesWithin x (t.write16 d v) := by
  cases d with
  | reg r => exact h.trans (.quiet rfl rfl rfl)
  | mem sg off => exact h.trans (.stores (by rw [named]; exact List.cons_ne_nil _ _))

theorem choice {c : Prop} [Decidable c] (yes : s.ReachesWithin x t) (no : s.ReachesWithin y u) :
    s.ReachesWithin (if c then x else y) (if c then t else u) := by
  split
  · exact yes
  · exact no

theorem stackAddrs_ne_nil (s : State) (k : Nat) : s.stackAddrs (k + 1) ≠ [] := by
  simp [State.stackAddrs, List.range_succ_eq_map, wordAddrs]

/-! ### The shared operations of the instruction families -/

section
variable (s)

theorem addTo (x : Operands) (c : Bool) (f : List FlagName) : s.ReachesWithin (x.footprint f) (s.addTo x c) := by
  cases x with
  | b dst a b => exact .write8 (t := s.setFlags _) .quiet _
  | w dst a b => exact .write16 (t := s.setFlags _) .quiet _

theorem subFrom (x : Operands) (c : Bool) (f : List FlagName) : s.ReachesWithin (x.footprint f) (s.subFrom x c) := by
  cases x with
  | b dst a b => exact .write8 (t := s.setFlags _) .quiet _
  | w dst a b => exact .write16 (t := s.setFlags _) .quiet _

theorem logic (op : LogicOp) (x : Operands) (f : List FlagName) : s.ReachesWithin (x.footprint f) (s.logic op x) := by
  cases x with
  | b dst a b => exact .write8 (t := s.logicFlags _) .quiet _
  | w dst a b => exact .write16 (t := s.logicFlags _) .quiet _

theorem shift (op : ShiftOp) (x : RmForm) (n : ShiftCount) (f : List FlagName) :
    s.ReachesWithin (s.shiftFootprint x n f) (s.shift op (x.operand s) (n.value s)) := by
  refine .choice .quiet ?_
  cases x with
  | b rm => exact .write8 (t := (s.setFlags _).drew 2) .quiet _
  | w rm => exact .write16 (t := (s.setFlags _).drew 2) .quiet _

theorem push16 (v : Word) : s.ReachesWithin s.pushFootprint (s.push16 v) := .stores (stackAddrs_ne_nil s 0)

theorem intCall (n : Byte) : s.ReachesWithin s.vectorFootprint (s.intCall n) := .stores (stackAddrs_ne_nil s 2)

theorem illegal : s.ReachesWithin s.illegalFootprint (s.illegal Config.illegalOpcodePolicy) := by
  unfold State.illegalFootprint
  cases Config.illegalOpcodePolicy with
  | raise6 => exact intCall s 6
  | nop => exact quiet rfl rfl rfl

end

/-- The repeat rule adds registers and IP to the iteration's footprint (R301). -/
theorem repeated {body : State → State} (h : s.ReachesWithin x (body s)) (compares : Bool) :
    s.ReachesWithin (s.stringFootprint x) (s.repeated compares body) := by
  refine .choice h (.choice (.quiet rfl rfl rfl) (.of_eq (x := x) ?_))
  dsimp only
  split
  · exact h.trans (.quiet rfl rfl rfl)
  · exact h.trans (.quiet rfl rfl rfl)

end State.ReachesWithin

/-! ### The instructions with cases -/

theorem exec_div_reachesWithin (x : RmForm) (s : State) :
    ∃ t, exec (.div x) s = .next t ∧ s.ReachesWithin (Instr.footprint (.div x) s) t := by
  refine ⟨_, (exec_div x s).trans (apply_ite Host.Outcome.next _ _ _).symm, .choice (.intCall s 0) ?_⟩
  cases x with
  | b rm | w rm => exact .quiet rfl rfl rfl

theorem exec_idiv_reachesWithin (x : RmForm) (s : State) :
    ∃ t, exec (.idiv x) s = .next t ∧ s.ReachesWithin (Instr.footprint (.idiv x) s) t := by
  refine ⟨_, (exec_idiv x s).trans (apply_ite Host.Outcome.next _ _ _).symm, .choice (.intCall s 0) ?_⟩
  cases x with
  | b rm | w rm => exact .quiet rfl rfl rfl

theorem exec_bound_reachesWithin (r : Reg16) (m : MemOp) (s : State) :
    ∃ t, exec (.bound r m) s = .next t ∧ s.ReachesWithin (Instr.footprint (.bound r m) s) t := by
  refine ⟨_, (apply_ite Host.Outcome.next _ _ _).symm, ?_⟩
  simp only [← State.outOfBounds_iff]
  exact .choice (.intCall s 5) .quiet

/-- AAA and AAS differ in the adjusted digits only. -/
theorem State.asciiAdjust_reachesWithin (s : State) (adjust : Bool) (ah ah' al al' : Byte) {x : Footprint} :
    ∃ t, (if adjust then .next (s.asciiAdjusted ah al true) else .next (s.asciiAdjusted ah' al' false))
        = (.next t : Host.Outcome State Fault Refusal) ∧ s.ReachesWithin x t := by
  cases adjust
  · exact ⟨_, rfl, .quiet⟩
  · exact ⟨_, rfl, .quiet⟩

theorem exec_enter_reachesWithin (size : Word) (level : Byte) (s : State) :
    ∃ t, exec (.enter size level) s = .next t ∧ s.ReachesWithin (Instr.footprint (.enter size level) s) t := by
  refine ⟨_, rfl, ?_⟩
  have named := State.ReachesWithin.stackAddrs_ne_nil s (level &&& 0x1F).toNat
  split
  · exact .stores named
  · exact .stores named

/-- What an instruction reaches, HLT and the prefixes apart. -/
theorem exec_reachesWithin (i : Instr) (s : State) (notHlt : i ≠ .hlt) (notPrefix : i.isPrefix = false) :
    ∃ t, exec i s = .next t ∧ s.ReachesWithin (i.footprint s) t :=
  match i with
  | .hlt => absurd rfl notHlt
  | .segEs | .segCs | .segSs | .segDs | .repne | .rep => nomatch notPrefix
  | .add f | .adc f => ⟨_, rfl, .addTo s (f.operands s) _ _⟩
  | .sub f | .sbb f => ⟨_, rfl, .subFrom s (f.operands s) _ _⟩
  | .or f | .and f | .xor f => ⟨_, rfl, .logic s _ (f.operands s) _⟩
  | .inc (.rm (.b _)) | .dec (.rm (.b _)) => ⟨_, rfl, .write8 (t := s.setFlags _) .quiet _⟩
  | .inc (.rm (.w _)) | .inc (.r16 _) | .dec (.rm (.w _)) | .dec (.r16 _) =>
    ⟨_, rfl, .write16 (t := s.setFlags _) .quiet _⟩
  | .neg (.b rm) => ⟨_, rfl, .subFrom s (.b (s.loc rm) _ _) _ _⟩
  | .neg (.w rm) => ⟨_, rfl, .subFrom s (.w (s.loc rm) _ _) _ _⟩
  | .not (.b _) | .movRmReg (.b _ _) | .movRmImm (.b _ _) => ⟨_, rfl, .write8 .quiet _⟩
  | .not (.w _) | .movRmReg (.w _ _) | .movRmImm (.w _ _) | .movRmSreg _ _ => ⟨_, rfl, .write16 .quiet _⟩
  | .movMoffsAcc .byte _ | .movMoffsAcc .word _ => ⟨_, rfl, .stores (List.cons_ne_nil _ _)⟩
  | .xchgRmReg (.b rm _) => ⟨_, rfl, .trans (.write8 (t := s) (d := s.loc rm) (.quiet rfl rfl rfl) _) (.quiet rfl rfl rfl)⟩
  | .xchgRmReg (.w rm _) => ⟨_, rfl, .trans (.write16 (t := s) (d := s.loc rm) (.quiet rfl rfl rfl) _) (.quiet rfl rfl rfl)⟩
  | .popRm _ => ⟨_, rfl, .write16 (t := s.popped) .quiet _⟩
  | .pushReg _ | .pushSreg _ | .pushRm _ | .pushf | .pushImm16 _ | .pushImm8 _ => ⟨_, rfl, .push16 s _⟩
  | .pusha => ⟨_, rfl, .stores (State.ReachesWithin.stackAddrs_ne_nil s 7)⟩
  | .callNear _ | .callRm _ => ⟨_, rfl, .stores (State.ReachesWithin.stackAddrs_ne_nil s 0)⟩
  | .callFar _ _ | .callMem _ => ⟨_, rfl, .stores (State.ReachesWithin.stackAddrs_ne_nil s 1)⟩
  | .enter size level => exec_enter_reachesWithin size level s
  | .int3 | .int _ => ⟨_, rfl, .intCall s _⟩
  | .into => ⟨_, (apply_ite Host.Outcome.next _ _ _).symm, .choice (.intCall s 4) (.quiet rfl rfl rfl)⟩
  | .aam _ => ⟨_, (apply_ite Host.Outcome.next _ _ _).symm, .choice (.intCall s 0) (.quiet rfl rfl rfl)⟩
  | .illegalOp _ | .illegalModrm _ _ _ => ⟨_, rfl, .illegal s⟩
  | .div x => exec_div_reachesWithin x s
  | .idiv x => exec_idiv_reachesWithin x s
  | .bound r m => exec_bound_reachesWithin r m s
  | .rol x n | .ror x n | .rcl x n | .rcr x n | .shl x n | .shr x n | .sar x n => ⟨_, rfl, .shift s _ x n _⟩
  | .movsb | .movsw | .stosb | .stosw => ⟨_, rfl, .repeated (.stores (List.cons_ne_nil _ _)) _⟩
  | .insb | .insw | .outsb | .outsw => ⟨_, rfl, .repeated (.ports rfl) _⟩
  | .cmpsb | .cmpsw | .lodsb | .lodsw | .scasb | .scasw => ⟨_, rfl, .repeated .quiet _⟩
  | .inImm _ _ | .inDx _ | .outImm _ _ | .outDx _ => ⟨_, rfl, .ports rfl⟩
  | .aaa | .aas => State.asciiAdjust_reachesWithin s ..
  | .jo _ | .jno _ | .jb _ | .jnb _ | .jz _ | .jnz _ | .jbe _ | .ja _ | .js _ | .jns _ | .jp _ | .jnp _ | .jl _ | .jge _
  | .jle _ | .jg _ | .jcxz _ | .loop _ | .loopz _ | .loopnz _ | .cmp _ | .test _
  | .mul (.b _) | .mul (.w _) | .imul (.b _) | .imul (.w _)
  | .movRegRm (.b _ _) | .movRegRm (.w _ _) | .movRegImm (.b _ _) | .movRegImm (.w _ _) | .movAccMoffs .byte _
  | .movAccMoffs .word _ | .movSregRm _ _ | .popReg _ | .popSreg _ | .xchgAx _ | .nop | .lea _ _ | .lds _ _ | .les _ _
  | .xlat | .cbw | .cwd | .jmpShort _ | .jmpNear _ | .jmpFar _ _ | .jmpRm _ | .jmpMem _ | .ret
  | .retImm _ | .retf | .retfImm _ | .imulImm16 _ _ _ | .imulImm8 _ _ _
  | .daa | .das | .aad _ | .clc | .stc | .cmc | .cld | .std | .cli | .sti | .lahf | .sahf | .popf
  | .iret | .lock | .wait | .esc _ _ _ | .popa | .leave => ⟨_, rfl, .quiet⟩

/-- Settles O59: HLT writes the halt state alone, a prefix byte the decode state alone, and everything else reaches within
its footprint. -/
theorem frameOfDevicesAndControl : Obligations.FrameOfDevicesAndControl := by
  intro i s t step
  by_cases isHlt : i = .hlt
  · subst isHlt
    cases step
    exact ⟨fun _ => ⟨rfl, rfl, rfl⟩, (absurd rfl ·), fun _ => ⟨rfl, rfl⟩, rfl, rfl, rfl, rfl, rfl, rfl, rfl, fun _ _ => rfl⟩
  · cases isPrefix : i.isPrefix with
    | true =>
      cases (exec_prefix isPrefix s).symm.trans step
      exact ⟨fun _ => ⟨rfl, rfl, rfl⟩, fun _ => rfl, nofun, rfl, rfl, rfl, rfl, rfl, rfl, rfl, fun _ _ => rfl⟩
    | false =>
      obtain ⟨t', run, reach⟩ := exec_reachesWithin i s isHlt isPrefix
      cases run.symm.trans step
      have control := reach.control
      simp only [State.control, Control.mk.injEq] at control
      obtain ⟨halt, trapLatch, seg, rep, firstIp, ro, ports, sched, running, events⟩ := control
      exact ⟨fun none => by simpa [State.devices] using reach.devices none, fun _ => halt, fun _ => ⟨seg, rep⟩, trapLatch,
        firstIp, ro, ports, sched, running, events, reach.outputs⟩

end Sys2Proof.Machine
end

section
/-! PROOFS of the statement about TF and IF (spec/47_flags_io.md R415): an instruction other than CLI, STI, POPF and IRET
either keeps both out of its footprint or is an `IntCall`, which clears them. -/

namespace Sys2Proof.Machine

/-- Neither TF nor IF is among the flags of the footprint. -/
def Footprint.sparesMasks (x : Footprint) : Bool := x.flags.all fun f => f != .tf && f != .ifl

theorem Footprint.sparesMasks_iff (x : Footprint) : x.sparesMasks = true ↔ .tf ∉ x.flags ∧ .ifl ∉ x.flags := by
  simp only [Footprint.sparesMasks, List.all_eq_true, Bool.and_eq_true, bne_iff_ne]
  exact ⟨fun spares => ⟨fun mem => (spares _ mem).1 rfl, fun mem => (spares _ mem).2 rfl⟩,
    fun ⟨tf, ifl⟩ f mem => ⟨fun h => tf (h ▸ mem), fun h => ifl (h ▸ mem)⟩⟩

/-! ### The shared footprints -/

section
variable {f : List FlagName} (s : State)

theorem Operand.sparesMasks (x : Operand) (spares : Footprint.sparesMasks { flags := f } = true) :
    (x.footprint f).sparesMasks = true := by
  cases x with
  | b | w => exact spares

theorem Operands.sparesMasks (x : Operands) (spares : Footprint.sparesMasks { flags := f } = true) :
    (x.footprint f).sparesMasks = true := by
  cases x with
  | b | w => exact spares

theorem State.sparesMasks_shiftFootprint (x : RmForm) (n : ShiftCount)
    (spares : Footprint.sparesMasks { flags := f } = true) : (s.shiftFootprint x n f).sparesMasks = true := by
  unfold State.shiftFootprint
  split
  · rfl
  · exact (x.operand s).sparesMasks spares

theorem State.sparesMasks_stringFootprint {x : Footprint} (spares : x.sparesMasks = true) :
    (s.stringFootprint x).sparesMasks = true := by
  unfold State.stringFootprint
  split
  · exact spares
  · split
    · rfl
    · exact spares

end

/-! ### Spared or vectored -/

/-- The instruction writes neither TF nor IF, or it is an `IntCall`. -/
inductive SparesOrVectors (i : Instr) (s : State) : Prop where
  | spares (h : (i.footprint s).sparesMasks = true)
  | vectors (n : Byte) (h : exec i s = .next (s.intCall n))

/-- An instruction that vectors on a condition. -/
theorem SparesOrVectors.choice {i : Instr} {s t : State} {n : Byte} {x : Footprint} {c : Prop} [Decidable c]
    (run : exec i s = if c then .next (s.intCall n) else .next t)
    (footprint : i.footprint s = if c then s.vectorFootprint else x) (spares : x.sparesMasks = true) :
    SparesOrVectors i s := by
  by_cases h : c
  · exact .vectors n (run.trans (if_pos h))
  · exact .spares (by rwa [footprint, if_neg h])

theorem illegal_sparesOrVectors {i : Instr} {s : State} (run : exec i s = .next (s.illegal Config.illegalOpcodePolicy))
    (footprint : i.footprint s = s.illegalFootprint) : SparesOrVectors i s := by
  unfold State.illegalFootprint at footprint
  cases policy : Config.illegalOpcodePolicy with
  | raise6 => exact .vectors 6 (by rw [run, policy]; rfl)
  | nop => exact .spares (by rw [footprint, policy]; rfl)

theorem bound_sparesOrVectors (r : Reg16) (m : MemOp) (s : State) : SparesOrVectors (.bound r m) s := by
  refine .choice (c := s.outOfBounds r m = true) (n := 5) (t := s) ?_ rfl rfl
  simp only [State.outOfBounds_iff]
  rfl

/-- The four instructions that write TF or IF by name (R405, R406, R410, R433). -/
def namesMasks : Instr → Bool
  | .cli | .sti | .popf | .iret => true
  | _ => false

theorem namesMasks_cases {i : Instr} (h : namesMasks i = true) : i = .cli ∨ i = .sti ∨ i = .popf ∨ i = .iret := by
  unfold namesMasks at h
  split at h <;> simp_all

theorem sparesOrVectors (i : Instr) (s : State) (h : namesMasks i = false) : SparesOrVectors i s :=
  match i with
  | .cli | .sti | .popf | .iret => nomatch h
  | .int3 | .int _ => .vectors _ rfl
  | .into | .aam _ => .choice rfl rfl rfl
  | .div x => .choice (exec_div x s) rfl rfl
  | .idiv x => .choice (exec_idiv x s) rfl rfl
  | .bound r m => bound_sparesOrVectors r m s
  | .illegalOp _ | .illegalModrm _ _ _ => illegal_sparesOrVectors (s := s) rfl rfl
  | .add f | .adc f | .sub f | .sbb f | .or f | .and f | .xor f => .spares ((f.operands s).sparesMasks rfl)
  | .inc f | .dec f => .spares ((f.operand s).sparesMasks rfl)
  | .neg x | .not x => .spares ((x.operand s).sparesMasks rfl)
  | .movRmReg x => .spares ((RmReg.toRm s x).sparesMasks rfl)
  | .movRegRm x => .spares ((RmReg.toReg s x).sparesMasks rfl)
  | .movRmImm x => .spares ((x.operands s).sparesMasks rfl)
  | .rol x n | .ror x n | .rcl x n | .rcr x n | .shl x n | .shr x n | .sar x n =>
    .spares (s.sparesMasks_shiftFootprint x n rfl)
  | .movsb | .movsw | .cmpsb | .cmpsw | .stosb | .stosw | .lodsb | .lodsw | .scasb | .scasw | .insb | .insw | .outsb
  | .outsw => .spares (s.sparesMasks_stringFootprint rfl)
  | .movRegImm (.b _ _) | .movRegImm (.w _ _) | .movMoffsAcc .byte _ | .movMoffsAcc .word _ | .xchgRmReg (.b _ _)
  | .xchgRmReg (.w _ _) | .cmp _ | .test _ | .movAccMoffs _ _ | .movSregRm _ _ | .movRmSreg _ _ | .pushReg _ | .pushSreg _
  | .pushRm _ | .popReg _ | .popSreg _ | .popRm _ | .xchgAx _ | .nop | .lea _ _ | .lds _ _ | .les _ _ | .xlat | .cbw | .cwd
  | .jo _ | .jno _ | .jb _ | .jnb _ | .jz _ | .jnz _ | .jbe _ | .ja _ | .js _ | .jns _ | .jp _ | .jnp _ | .jl _ | .jge _
  | .jle _ | .jg _ | .jmpShort _ | .jmpNear _ | .jmpFar _ _ | .jmpRm _ | .jmpMem _ | .callNear _ | .callFar _ _ | .callRm _
  | .callMem _ | .ret | .retImm _ | .retf | .retfImm _ | .loop _ | .loopz _ | .loopnz _ | .jcxz _ | .mul _ | .imul _
  | .imulImm16 _ _ _ | .imulImm8 _ _ _ | .daa | .das | .aaa | .aas | .aad _ | .clc | .stc | .cmc | .cld | .std | .lahf
  | .sahf | .pushf | .inImm _ _ | .inDx _ | .outImm _ _ | .outDx _ | .hlt | .lock | .wait | .esc _ _ _ | .pusha | .popa
  | .pushImm16 _ | .pushImm8 _ | .enter _ _ | .leave | .segEs | .segCs | .segSs | .segDs | .repne | .rep => .spares rfl

/-- TF and IF are as before or clear. -/
theorem masks_of_exec {i : Instr} {s t : State} (run : exec i s = .next t) (h : namesMasks i = false) :
    (t.flags.tf = true → s.flags.tf = true) ∧ (t.flags.ifl = true → s.flags.ifl = true) := by
  obtain spares | ⟨n, vectored⟩ := sparesOrVectors i s h
  · obtain ⟨tf, ifl⟩ := (Footprint.sparesMasks_iff _).mp spares
    have within := writesWithin_of_exec run
    exact ⟨(within.flags .tf tf).symm.trans, (within.flags .ifl ifl).symm.trans⟩
  · cases vectored.symm.trans run
    rw [State.intCall_flags]
    exact ⟨nofun, nofun⟩

/-- Settles O60: CLI and STI leave TF, CLI clears IF, and apart from POPF and IRET the other instructions keep or clear
both. -/
theorem onlyTheseSetTfAndIf : Obligations.OnlyTheseSetTfAndIf := by
  intro i s t run
  cases names : namesMasks i with
  | false =>
    obtain ⟨tf, ifl⟩ := masks_of_exec run names
    exact ⟨fun off on => absurd ((tf on).symm.trans off) nofun, fun off on => absurd ((ifl on).symm.trans off) nofun⟩
  | true =>
    obtain rfl | rfl | rfl | rfl := namesMasks_cases names
    · cases run
      exact ⟨fun off on => absurd (off.symm.trans on) nofun, fun _ on => absurd on nofun⟩
    · cases run
      exact ⟨fun off on => absurd (off.symm.trans on) nofun, fun _ _ => .inl rfl⟩
    · exact ⟨fun _ _ => .inl rfl, fun _ _ => .inr (.inl rfl)⟩
    · exact ⟨fun _ _ => .inr rfl, fun _ _ => .inr (.inr rfl)⟩

end Sys2Proof.Machine
end
